-- ==== Sys2Proof/Word.lean ====
section
/-!
DEFINITION. The word types of the THERMO core: port words, the two halves of a Temperature, glyphs, command words.
-/

namespace Sys2Proof

/-- A port word: `PORT_W = PAT_W = 32` bits (00_scope.md R6). -/
abbrev Word := BitVec 32

/-- A magnitude word: `MAG_W = 16` bits, two's complement (10_state.md R26). -/
abbrev Mag := BitVec 16

/-- A glyph: an opaque 7-bit code (30_encoding.md R70, R72). -/
abbrev Glyph := BitVec 7

/-- A command word: `CMD_W = 20` bits (30_encoding.md R60). -/
abbrev Cmd := BitVec 20

end Sys2Proof
end

