-- ==== Sys2Proof/Syntax.lean ====
section
/-!
DEFINITION. What can be asked of the block: the four operations (one constructor per row of spec/opcode_table.json), the
Temperature record, and the environment's actions and script lines (30_encoding.md R60 to R64, R76).
-/

namespace Sys2Proof

/-- `Temperature.unit`: a 2-bit tag with all four codes named (10_state.md R27, 30_encoding.md R64).
The numeric codes are `TempUnit.code` in Decode.lean. -/
inductive TempUnit where
  /-- Code `0b00`: neither Celsius nor Fahrenheit. -/
  | unrecognised
  /-- Code `0b01`. -/
  | celsius
  /-- Code `0b10`. -/
  | fahrenheit
  /-- Code `0b11`. -/
  | error
  deriving DecidableEq, Repr, Inhabited

/-- The record passed from the sensor stage to the encoder stage (30_encoding.md R64): a magnitude in tenths of a
degree, two's complement, and a unit tag. Every pair is legal to hold (10_state.md R26). -/
structure Temperature where
  mag  : Mag
  unit : TempUnit
  deriving DecidableEq, Repr, Inhabited

/-- The operations of the block (00_scope.md R2). -/
inductive Instr where
  /-- `NOP` (42_formatter_update.md R139). -/
  | nop
  /-- `RDTEMP` (40_sensor_reader.md R86). -/
  | rdtemp
  /-- `ENCODE` with its Temperature operand (42_formatter_update.md R134, 30_encoding.md R61). -/
  | encode (temp : Temperature)
  /-- `UPDATE` (42_formatter_update.md R136), the source's `thermo_update`. -/
  | update
  deriving DecidableEq, Repr

/-- What the environment can do to the block between two operations (30_encoding.md R76, 70_reset_and_hazards.md R170,
R174, R176). DESIGN CHOICE (log 2): held in State as the list of what is still to come. -/
inductive EnvAction where
  /-- Make `SENSOR_PORT` hold this word (R76 `SET SENSOR`). -/
  | setSensor (w : Word)
  /-- Make `STATUS_PORT` hold this word (R76 `SET STATUS`). -/
  | setStatus (w : Word)
  /-- Another agent writes `DISPLAY_PORT` between operations (10_state.md R23, 70_reset_and_hazards.md R174). -/
  | setDisplay (w : Word)
  /-- Reset the block (70_reset_and_hazards.md R170). -/
  | reset
  /-- Invoke the operation this command word selects (30_encoding.md R60). -/
  | invoke (cmd : Cmd)
  deriving DecidableEq, Repr

/-- A line of a host script as written down (30_encoding.md R76), with plain integers. `EXPECT` is an assertion and
not an operation, so it is no line here (log 28). -/
inductive HostLine where
  | setSensor (v : Int)
  | setStatus (v : Int)
  | nop
  | rdtemp
  | encode (mag : Int) (unit : TempUnit)
  | update
  deriving DecidableEq, Repr

end Sys2Proof
end

