-- ==== Sys2Proof/WellFormed.lean ====
section
/-!
DEFINITION. Which terms of Syntax.lean stand for something the hardware can be given.
-/

namespace Sys2Proof

/-- Every operation is well formed: all four values of `OP` are assigned and every operand is legal to supply
(30_encoding.md R62, R75), so there is no illegal command to rule out. -/
def Instr.wellFormed : Instr → Bool
  | .nop => true
  | .rdtemp => true
  | .encode _ => true
  | .update => true

/-- An integer a 32-bit port word can hold, written signed or unsigned (30_encoding.md R76: `SET SENSOR, -1` and
`SET STATUS, 0xFFFFFFFF` both name a word). -/
def fitsPort (v : Int) : Bool := decide (-(2 ^ 31) ≤ v) && decide (v < 2 ^ 32)

/-- An integer a 16-bit two's-complement magnitude can hold (10_state.md R26). -/
def fitsMag (v : Int) : Bool := decide (-(2 ^ 15) ≤ v) && decide (v < 2 ^ 15)

/-- A script line names words the hardware has (30_encoding.md R76): port integers fit 32 bits, magnitudes 16. -/
def HostLine.wellFormed : HostLine → Bool
  | .setSensor v => fitsPort v
  | .setStatus v => fitsPort v
  | .nop => true
  | .rdtemp => true
  | .encode mag _ => fitsMag mag
  | .update => true

end Sys2Proof
end

