-- ==== Sys2Proof/Decode.lean ====
section
/-!
DEFINITION. Command words to operations and back (30_encoding.md R60 to R64), and script lines to environment actions
(R76).
-/

namespace Sys2Proof

/-! ### The unit codes (R64) -/

/-- The 2-bit code of a unit (R64). -/
def TempUnit.code : TempUnit → BitVec 2
  | .unrecognised => 0b00#2
  | .celsius => 0b01#2
  | .fahrenheit => 0b10#2
  | .error => 0b11#2

/-- The unit a 2-bit code stands for (R64). -/
def unitOfCode (c : BitVec 2) : TempUnit :=
  if c = 0b01#2 then .celsius
  else if c = 0b10#2 then .fahrenheit
  else if c = 0b11#2 then .error
  else .unrecognised

/-! ### The command word (R60) -/

/-- `OP = CMD[19:18]` (R60). -/
def cmdOp (w : Cmd) : BitVec 2 := w.extractLsb' 18 2

/-- `UNIT = CMD[17:16]` (R60). -/
def cmdUnit (w : Cmd) : BitVec 2 := w.extractLsb' 16 2

/-- `MAG = CMD[15:0]` (R60). -/
def cmdMag (w : Cmd) : Mag := w.extractLsb' 0 16

/-- The Temperature operand of a command word (R61). -/
def cmdTemperature (w : Cmd) : Temperature := { mag := cmdMag w, unit := unitOfCode (cmdUnit w) }

/-- The operation a command word selects (R62): every 20-bit word selects exactly one, so there is nothing to reject;
bits 17:0 are dropped but for `ENCODE` (R63). -/
def decode (w : Cmd) : Instr :=
  if cmdOp w = 0b00#2 then .nop
  else if cmdOp w = 0b01#2 then .rdtemp
  else if cmdOp w = 0b10#2 then .encode (cmdTemperature w)
  else .update

/-- Why a number is no command word. -/
inductive DecodeError where
  /-- The number needs more than the `CMD_W = 20` bits of a command word (R60). -/
  | widerThanCommandWord
  deriving DecidableEq, Repr

/-- The operation of a number taken as a command word: refused by name where it is wider than 20 bits (R60), else
`decode`. -/
def decodeNat (w : Nat) : Except DecodeError Instr :=
  if w < 2 ^ 20 then .ok (decode (BitVec.ofNat 20 w)) else .error .widerThanCommandWord

/-- The operation of an opcode-table word given in `nbits` bits (whole bytes, so 24 for the 20-bit command word; the
bits above the command word are padding and must be zero, log 6). -/
def decodeTableWord (nbits w : Nat) : Option Instr :=
  match decodeNat (w % 2 ^ nbits) with
  | .ok i => some i
  | .error _ => none

/-! ### The encoder, from the same tables -/

/-- The operation code (R62). -/
def Instr.op : Instr → BitVec 2
  | .nop => 0b00#2
  | .rdtemp => 0b01#2
  | .encode _ => 0b10#2
  | .update => 0b11#2

/-- Bits 17:0: the Temperature of an `ENCODE` (R64), zero elsewhere (R63: "a host should write them as zero"). -/
def Instr.operandBits : Instr → BitVec 18
  | .nop => 0#18
  | .rdtemp => 0#18
  | .encode t => t.unit.code ++ t.mag
  | .update => 0#18

/-- The command word of an operation (R60, R62, R64). -/
def encodeCmd (i : Instr) : Cmd := i.op ++ i.operandBits

/-- The command word the production block is hardwired to (R60): `UPDATE`. -/
def productionCmd : Cmd := 0xC0000#20

/-! ### Host script lines (R76) -/

/-- The operation of an operation line, none for a host action. -/
def HostLine.instr : HostLine → Option Instr
  | .setSensor _ => none
  | .setStatus _ => none
  | .nop => some .nop
  | .rdtemp => some .rdtemp
  | .encode mag u => some (.encode { mag := BitVec.ofInt 16 mag, unit := u })
  | .update => some .update

/-- The environment action of a script line (R76). -/
def assemble : HostLine → EnvAction
  | .setSensor v => .setSensor (BitVec.ofInt 32 v)
  | .setStatus v => .setStatus (BitVec.ofInt 32 v)
  | .nop => .invoke (encodeCmd .nop)
  | .rdtemp => .invoke (encodeCmd .rdtemp)
  | .encode mag u => .invoke (encodeCmd (.encode { mag := BitVec.ofInt 16 mag, unit := u }))
  | .update => .invoke (encodeCmd .update)

end Sys2Proof
end

