-- ==== Sys2Proof/Config.lean ====
section
/-!
DEFINITION. What an implementation fixes, and the free values: constants without a body, so that no proof can learn
what they are.
-/

namespace Sys2Proof

/-! ### The values 10_state.md R33 leaves unspecified

"A model treats each unspecified as a draw (a free 32-bit, 16-bit, 2-bit or 1-bit value under no law), never as zero."
DESIGN CHOICE (log 1): one constant per piece of state, applied to the number of the draw. -/

/-- Content of `SENSOR_PORT` at power-on (R20, R33). -/
opaque Config.freeSensorPort : Nat → Word
/-- Content of `STATUS_PORT` at power-on (R21, R33). -/
opaque Config.freeStatusPort : Nat → Word
/-- Content of `DISPLAY_PORT` at power-on (R33; 93_implementation_defined.md U1). -/
opaque Config.freeDisplayPort : Nat → Word
/-- `T.mag` after a reset (R33). -/
opaque Config.freeMag : Nat → Mag
/-- `T.unit` after a reset (R33). -/
opaque Config.freeUnit : Nat → TempUnit
/-- `PAT` after a reset (R33). -/
opaque Config.freePat : Nat → Word
/-- `RET` after a reset (R33). -/
opaque Config.freeRet : Nat → BitVec 1

/-- The three points of the placement cascade for which the spec fixes a reading and offers a parameter
(93_implementation_defined.md U2, U3, U4). `Machine.placementPolicy` is the reading the spec makes normative. -/
structure PlacementPolicy where
  /-- U2: does the minus of the ones field require a negative value? -/
  onesMinusNeedsNegative : Bool
  /-- U3: the ones glyph when all four digits are zero. -/
  onesAtZero : Glyph
  /-- U4: the tens glyph when no clause of the source's list applies. -/
  tensUnassigned : Glyph
  deriving DecidableEq, Repr

end Sys2Proof
end

