-- ==== Sys2Proof/Machine/Operands.lean ====
section
/-!
DEFINITION. The constants of the block and the bit fields of its operands (30_encoding.md R65, R69 to R71, R73).
-/

namespace Sys2Proof.Machine

/-! ### Port words -/

/-- `signed_32(SENSOR_PORT)`: the raw reading as a signed integer (10_state.md R20, 00_scope.md R9). -/
def rawReading (w : Word) : Int := w.toInt

/-- `HWFAULT = STATUS_PORT[2]` (R65). -/
def hwFault (w : Word) : Bool := w.getLsbD 2

/-- `FMODE = STATUS_PORT[5]` (R65). -/
def fMode (w : Word) : Bool := w.getLsbD 5

/-! ### Constants (R73) -/

/-- The largest trusted raw reading. -/
def sensorMax : Int := 28800

/-- The right shift of SR.SCALE. -/
def scaleShift : Nat := 5

/-- The modulus of SR.ROUND. -/
def roundModulus : Int := 32

/-- The threshold of SR.ROUND. -/
def roundThreshold : Int := 16

/-- The zero offset of SR.SCALE. -/
def zeroOffset : Int := 450

/-- The displayable Celsius magnitudes, inclusive. -/
def celsiusMin : Int := -450
/-- See `celsiusMin`. -/
def celsiusMax : Int := 450

/-- The displayable Fahrenheit magnitudes, inclusive. -/
def fahrenheitMin : Int := -490
/-- See `fahrenheitMin`. -/
def fahrenheitMax : Int := 1130

/-- The error pattern `ERR` (R69), written out as the source prints it. -/
def errPattern : Word := 0b00000110111101111110111110000000#32

/-! ### Glyphs -/

/-- The glyph table (R70), reached by a decimal digit only (20_memory.md R41, 41_digit_glyph_encoder.md R104). -/
def glyph : Fin 10 → Glyph
  | 0 => 0b1111011#7
  | 1 => 0b1001000#7
  | 2 => 0b0111101#7
  | 3 => 0b1101101#7
  | 4 => 0b1001110#7
  | 5 => 0b1100111#7
  | 6 => 0b1110111#7
  | 7 => 0b1001001#7
  | 8 => 0b1111111#7
  | 9 => 0b1101111#7

/-- `MINUS` (R71). -/
def minusGlyph : Glyph := 0b0000100#7

/-- `BLANK` (R71). -/
def blankGlyph : Glyph := 0b0000000#7

end Sys2Proof.Machine
end

