-- ==== Sys2Proof/Machine/DigitEncoder.lean ====
section
/-!
DEFINITION. Family 2: absolute value, decimal digits and the placement of glyphs (41_digit_glyph_encoder.md R101 to R108).
-/

namespace Sys2Proof.Machine

/-- The four decimal digits, named by their weight in degrees (R102); each is in 0..9 by its type (R103). -/
structure Digits where
  h : Fin 10
  t : Fin 10
  o : Fin 10
  f : Fin 10
  deriving DecidableEq, Repr

/-- DE.ABS (R101): the value is negative. -/
def isNegative (m : Int) : Bool := decide (m < 0)

/-- DE.ABS (R101): the absolute value, by explicit negation. -/
def absMagnitude (m : Int) : Nat := (if isNegative m then -m else m).toNat

/-- DE.DIGITS (R102). `Fin.ofNat 10` is the remainder modulo 10. -/
def digitsOf (a : Nat) : Digits where
  f := Fin.ofNat 10 a
  o := Fin.ofNat 10 (a / 10)
  t := Fin.ofNat 10 (a / 100)
  h := Fin.ofNat 10 (a / 1000)

/-- The placement readings the spec makes normative: U2 literal (log 11), U3 blank (log 10), U4 blank (log 9). -/
def placementPolicy : PlacementPolicy where
  onesMinusNeedsNegative := false
  onesAtZero := blankGlyph
  tensUnassigned := blankGlyph

/-- DE.PLACE_H (R105). -/
def placeHundreds (neg : Bool) (d : Digits) : Glyph :=
  if d.h ≠ 0 then glyph d.h
  else if neg = true ∧ d.t ≠ 0 then minusGlyph
  else blankGlyph

/-- DE.PLACE_T (R106), clauses (a) to (e). -/
def placeTens (p : PlacementPolicy) (neg : Bool) (d : Digits) : Glyph :=
  if d.t = 0 ∧ d.h ≠ 0 then glyph 0
  else if neg = true ∧ d.h = 0 ∧ d.t = 0 ∧ d.o ≠ 0 then minusGlyph
  else if d.h = 0 ∧ d.t = 0 ∧ d.o = 0 then blankGlyph
  else if d.t ≠ 0 then glyph d.t
  else p.tensUnassigned

/-- The glyph of clause (b) of DE.PLACE_O: a minus, unless the parameter of U2 asks for a negative value. -/
def onesSign (p : PlacementPolicy) (neg : Bool) : Glyph :=
  if p.onesMinusNeedsNegative = true ∧ neg = false then blankGlyph else minusGlyph

/-- DE.PLACE_O (R107), clauses (a) to (d); clause (d) covers all that is left. -/
def placeOnes (p : PlacementPolicy) (neg : Bool) (d : Digits) : Glyph :=
  if d.o ≠ 0 then glyph d.o
  else if d.t = 0 ∧ d.h = 0 ∧ d.f ≠ 0 then onesSign p neg
  else if d.h = 0 ∧ d.t = 0 ∧ d.f = 0 then p.onesAtZero
  else glyph 0

/-- DE.PLACE_F (R108). -/
def placeTenths (d : Digits) : Glyph := glyph d.f

end Sys2Proof.Machine
end

