-- ==== Sys2Proof/Machine/Flags.lean ====
section
/-!
DEFINITION. When each flag is set: `SF` (40_sensor_reader.md R80), `EF` (41_digit_glyph_encoder.md R100) and the status
code (30_encoding.md R66). The block has no arithmetic flags (10_state.md R30).
-/

namespace Sys2Proof.Machine

/-- SR.FAULT: the reading is not to be trusted (R80). The comparisons are made on the full 32-bit signed value (R87). -/
abbrev SensorFaulty (v : Int) (status : Word) : Prop :=
  v < 0 ∨ v > sensorMax ∨ hwFault status = true

/-- DE.VALIDATE: the encoder rejects the Temperature (R100), clause by clause. -/
abbrev Rejected (temp : Temperature) : Prop :=
  temp.unit = .error
  ∨ (temp.unit = .celsius ∧ (temp.mag.toInt < celsiusMin ∨ temp.mag.toInt > celsiusMax))
  ∨ (temp.unit ≠ .celsius ∧ temp.unit ≠ .fahrenheit)
  ∨ (temp.unit = .fahrenheit ∧ (temp.mag.toInt < fahrenheitMin ∨ temp.mag.toInt > fahrenheitMax))

/-- A status code: 0 is success, 1 is failure (30_encoding.md R66). -/
def statusCode (failed : Bool) : BitVec 1 := BitVec.ofBool failed

end Sys2Proof.Machine
end

