-- ==== Sys2Proof/Machine/State.lean ====
section
/-!
DEFINITION. The state of the THERMO core as plain data, the reasons a step can stop, and the state after reset
(10_state.md).
-/

namespace Sys2Proof.Machine

/-- The sequencer's position (10_state.md R31). -/
inductive Phase where
  /-- `IDLE`. -/
  | idle
  /-- `S_READ`, the SensorReader stage. -/
  | sRead
  /-- `S_ENC`, the DisplayEncoder stage. -/
  | sEnc
  /-- `S_COMMIT`, the final write and return. -/
  | sCommit
  deriving DecidableEq, Repr

/-- The two ports that can be read (20_memory.md R40, R52). -/
inductive InPort where
  | sensor
  | status
  deriving DecidableEq, Repr

/-- One port access of the current operation: what 00_scope.md R11 puts on the label of a transition. -/
inductive PortAccess where
  /-- `MemRead` of an input port, with the word it returned. -/
  | read (p : InPort) (w : Word)
  /-- `MemWrite` of `DISPLAY_PORT`, with the word written. -/
  | write (w : Word)
  deriving DecidableEq, Repr

/-- The block's two named fault conditions (60_exceptions.md R150, R151). Both are recovered inside the operation that
detects them by `raise`; R153 names no other, and none is ever escalated, so no step of this model ends in one. -/
inductive Fault where
  /-- `SensorFault` (R150). Raised by the sensor stage of `RDTEMP` and `UPDATE`, recovered there; never ends a step
  (safe: nothing stops). -/
  | sensorFault
  /-- `EncodingRangeFault` (R151). Raised by the encoder stage of `ENCODE` and `UPDATE`, recovered there; never ends a
  step (safe: nothing stops). -/
  | encodingRangeFault
  deriving DecidableEq, Repr

/-- Why a step has no meaning. -/
inductive Refusal where
  /-- Raised by an arm of `exec` for an operation without a meaning yet; no arm raises it (safe). -/
  | notModelled (mnemonic : String)
  /-- Raised by `step` when an operation is invoked while the block is not idle: outside the contract, "a model refuses
  it" (70_reset_and_hazards.md R177). Safe: the machine stops where the spec gives no meaning (log 18). -/
  | invokedWhileBusy
  deriving DecidableEq, Repr

/-- The state (10_state.md, summary table), with three fields of the model's own at the end. -/
structure State where
  /-- `SENSOR_PORT` (R20). -/
  sensorPort : Word
  /-- `STATUS_PORT` (R21). -/
  statusPort : Word
  /-- `DISPLAY_PORT` (R22). -/
  displayPort : Word
  /-- `T.mag` and `T.unit` (R26, R27). -/
  t : Temperature
  /-- `PAT` (R29). -/
  pat : Word
  /-- `SF`, the sensor stage failed (R30). -/
  sf : Bool
  /-- `EF`, the encoder stage failed (R30). -/
  ef : Bool
  /-- `RET`, the status code of the last operation (R30; 30_encoding.md R66). -/
  ret : BitVec 1
  /-- `WTRACE`, the words the current operation has written to `DISPLAY_PORT` (R30). -/
  wtrace : List Word
  /-- The sequencer's position (R31). -/
  phase : Phase
  /-- The model's own: the port accesses of the current operation, in order (00_scope.md R11). DESIGN CHOICE (log 8). -/
  bus : List PortAccess
  /-- The model's own: what the environment does next, first action first. DESIGN CHOICE (log 2). -/
  script : List EnvAction
  /-- The model's own: the number of the next draw of unspecified values. DESIGN CHOICE (log 1). -/
  draws : Nat
  deriving DecidableEq, Repr

/-- The machine right after reset (10_state.md R33, 70_reset_and_hazards.md R170): `phase`, `SF`, `EF`, `WTRACE` as the
spec says, every value it leaves unspecified a draw (log 1), and nothing requested by the environment (log 2). -/
def State.reset : State where
  sensorPort := Config.freeSensorPort 0
  statusPort := Config.freeStatusPort 0
  displayPort := Config.freeDisplayPort 0
  t := { mag := Config.freeMag 0, unit := Config.freeUnit 0 }
  pat := Config.freePat 0
  sf := false
  ef := false
  ret := Config.freeRet 0
  wtrace := []
  phase := .idle
  bus := []
  script := []
  draws := 1

end Sys2Proof.Machine
end

