-- ==== Sys2Proof/Machine/Ops.lean ====
section
/-!
DEFINITION. The named operations over the state: port accesses (20_memory.md R52), latch and flag writes, taking a fault
(60_exceptions.md R156), the start and the return of an operation, and the reset (70_reset_and_hazards.md R170).
-/

namespace Sys2Proof.Machine

/-! ### Port accesses (20_memory.md R52) -/

/-- The content of an input port. -/
def State.inPort (s : State) : InPort → Word
  | .sensor => s.sensorPort
  | .status => s.statusPort

/-- What `MemRead` of an input port returns. -/
def memRead (p : InPort) (s : State) : Word := s.inPort p

/-- The state after `MemRead`: nothing changes (R44) but the model's access record (log 8). -/
def afterRead (p : InPort) (s : State) : State := { s with bus := s.bus ++ [.read p (s.inPort p)] }

/-- `MemWrite(DISPLAY_ADDR, 4, w)`: the whole word replaces the port's content and is appended to `WTRACE`. -/
def memWrite (w : Word) (s : State) : State :=
  { s with displayPort := w, wtrace := s.wtrace ++ [w], bus := s.bus ++ [.write w] }

/-! ### Latches, flags, phase -/

/-- Write the Temperature latch (10_state.md R26, R27). -/
def setTemp (temp : Temperature) (s : State) : State := { s with t := temp }

/-- Write the pattern latch (10_state.md R29). -/
def setPat (w : Word) (s : State) : State := { s with pat := w }

/-- Write `SF` (10_state.md R30). -/
def setSF (b : Bool) (s : State) : State := { s with sf := b }

/-- Write `EF` (10_state.md R30). -/
def setEF (b : Bool) (s : State) : State := { s with ef := b }

/-- Move the sequencer (10_state.md R31). -/
def enterPhase (p : Phase) (s : State) : State := { s with phase := p }

/-! ### Faults -/

/-- The sentinel Temperature `{0, Error}` (40_sensor_reader.md R80). -/
def errorTemperature : Temperature := { mag := 0#16, unit := .error }

/-- `raise` (60_exceptions.md R156): set the fault's flag and write the sentinel result of the stage; its third effect,
the stage's status 1, is delivered by the return that reads the flag (DESIGN CHOICE, log 24). Nothing is saved, no mode
changes, control goes onward. There is no return from it (R157). -/
def raise (f : Fault) (s : State) : State :=
  match f with
  | .sensorFault => setTemp errorTemperature (setSF true s)
  | .encodingRangeFault => setPat errPattern (setEF true s)

/-! ### Start and return of an operation -/

/-- Every operation starts with an empty write trace (10_state.md R30), and with it an empty access record (log 8). -/
def startOperation (s : State) : State := { s with wtrace := [], bus := [] }

/-- `return c`: deliver the status code in `RET` (00_scope.md R10). -/
def returnStatus (failed : Bool) (s : State) : State := { s with ret := statusCode failed }

/-- The last two lines of a stage's or a cycle's pseudocode: `phase <- IDLE ; return c`. -/
def finish (failed : Bool) (s : State) : State := returnStatus failed (enterPhase .idle s)

/-! ### The environment's actions other than an invocation -/

/-- The effect of reset (70_reset_and_hazards.md R170): `phase`, `SF`, `EF` and `WTRACE` as the rule says; `T`, `PAT` and
`RET` become unspecified, so fresh draws (log 1); no port is read or written, `DISPLAY_PORT` keeps what it held. -/
def applyReset (s : State) : State :=
  { s with
    phase := .idle, sf := false, ef := false, wtrace := [], bus := [],
    t := { mag := Config.freeMag s.draws, unit := Config.freeUnit s.draws },
    pat := Config.freePat s.draws, ret := Config.freeRet s.draws,
    draws := s.draws + 1 }

/-- `SET SENSOR` (30_encoding.md R76). -/
def setSensorPort (w : Word) (s : State) : State := { s with sensorPort := w }

/-- `SET STATUS` (30_encoding.md R76). -/
def setStatusPort (w : Word) (s : State) : State := { s with statusPort := w }

/-- Another agent's write of `DISPLAY_PORT` between operations (70_reset_and_hazards.md R174): not the block's, so
`WTRACE` does not list it (10_state.md R30). -/
def setDisplayPort (w : Word) (s : State) : State := { s with displayPort := w }

/-- The environment's actions still to come. -/
def setScript (l : List EnvAction) (s : State) : State := { s with script := l }

/-- An operation may be invoked only when the block is idle (70_reset_and_hazards.md R177). -/
def canInvoke (s : State) : Bool := decide (s.phase = .idle)

/-- What the environment does next, and the state in which that action is no longer to come (log 2). -/
def nextAction (s : State) : Option (EnvAction × State) :=
  match s.script with
  | [] => none
  | a :: rest => some (a, setScript rest s)

/-- The script with this action put first. -/
def queueAction (a : EnvAction) (s : State) : State := setScript (a :: s.script) s

end Sys2Proof.Machine
end

