-- ==== Sys2Proof/Machine/Formatter.lean ====
section
/-!
DEFINITION. Family 3, first part: unit indicator, composition, the encoder stage, and `ENCODE`
(42_formatter_update.md R130 to R135).
-/

namespace Sys2Proof.Machine

/-- DE.UNITBIT (R130): bit 28 for Celsius, bit 29 for Fahrenheit. -/
def unitBits (u : TempUnit) : Word :=
  (if u = .fahrenheit then 1#32 else 0#32) <<< 29 ||| (if u = .celsius then 1#32 else 0#32) <<< 28

/-- DE.COMPOSE (R131): the marker bit, the unit bits and the four glyph fields. -/
def compose (u : TempUnit) (h t o f : Glyph) : Word :=
  1#32 <<< 31 ||| unitBits u ||| h.setWidth 32 <<< 21 ||| t.setWidth 32 <<< 14 ||| o.setWidth 32 <<< 7
    ||| f.setWidth 32

/-- The pattern of an accepted Temperature under a placement policy (R101 to R108, R130, R131). -/
def patternWith (p : PlacementPolicy) (temp : Temperature) : Word :=
  let m := temp.mag.toInt
  let neg := isNegative m
  let d := digitsOf (absMagnitude m)
  compose temp.unit (placeHundreds neg d) (placeTens p neg d) (placeOnes p neg d) (placeTenths d)

/-- The pattern of an accepted Temperature (R134). -/
def patternOf (temp : Temperature) : Word := patternWith placementPolicy temp

/-- DE.VALIDATE and what follows it, on the Temperature in the latch (R100, R132, R134). -/
def encodeTemperature (s : State) : State :=
  if Rejected s.t then raise .encodingRangeFault s else setPat (patternOf s.t) s

/-- The encoder stage (R134 without its operation frame); it touches no port. -/
def encodeStage (s : State) : State := encodeTemperature (enterPhase .sEnc (setEF false s))

/-- `ENCODE` after its stage: `phase <- IDLE ; return EF` (R134). -/
def finishEncode (s : State) : State := finish s.ef s

/-- `ENCODE` on its operand (R61, R134). -/
def execEncode (temp : Temperature) (s : State) : Host.Outcome State Fault Refusal :=
  .next (finishEncode (encodeStage (setTemp temp (startOperation s))))

end Sys2Proof.Machine
end

