-- ==== Sys2Proof/Machine/SensorReader.lean ====
section
/-!
DEFINITION. Family 1, SensorReader: the steps SR.SCALE, SR.ROUND, SR.UNIT, the stage, and `RDTEMP` (40_sensor_reader.md).
-/

namespace Sys2Proof.Machine

/-- SR.SCALE (R81): `(v >> 5) - 450`, applied to non-negative readings only. -/
def scale (v : Int) : Int := (v >>> scaleShift) - zeroOffset

/-- SR.ROUND (R82): round half up on the five discarded bits. -/
def roundUp (v c0 : Int) : Int := if v % roundModulus ≥ roundThreshold then c0 + 1 else c0

/-- The scaled and rounded Celsius value in tenths of a degree (R83). -/
def celsiusOf (v : Int) : Int := roundUp v (scale v)

/-- The Celsius to Fahrenheit conversion (R84): multiply, divide truncating toward zero (00_scope.md R9), add. -/
def fahrenheitOf (c : Int) : Int := (c * 9).tdiv 5 + 320

/-- SR.UNIT (R84): the Temperature of a trusted Celsius value. -/
def selectUnit (c : Int) (status : Word) : Temperature :=
  if fMode status then { mag := BitVec.ofInt 16 (fahrenheitOf c), unit := .fahrenheit }
  else { mag := BitVec.ofInt 16 c, unit := .celsius }

/-- SR.FAULT, SR.SCALE, SR.ROUND, SR.UNIT on the two words read (R80 to R84). -/
def convertReading (sensor status : Word) (s : State) : State :=
  if SensorFaulty (rawReading sensor) status then raise .sensorFault s
  else setTemp (selectUnit (celsiusOf (rawReading sensor)) status) s

/-- The sensor stage (R86 without its operation frame): both ports are read, sensor first, before any computation and
whatever the values are (20_memory.md R47). -/
def sensorStage (s : State) : State :=
  let s1 := enterPhase .sRead (setSF false s)
  let s2 := afterRead .sensor s1
  let s3 := afterRead .status s2
  convertReading (memRead .sensor s1) (memRead .status s2) s3

/-- `RDTEMP` after its stage: `phase <- IDLE ; return SF` (R85, R86). -/
def finishRdtemp (s : State) : State := finish s.sf s

/-- `RDTEMP` (R86). -/
def execRdtemp (s : State) : Host.Outcome State Fault Refusal :=
  .next (finishRdtemp (sensorStage (startOperation s)))

end Sys2Proof.Machine
end

