-- ==== Sys2Proof/Machine/Cycle.lean ====
section
/-!
DEFINITION. Family 3, second part: the update cycle, `NOP`, and the states an operation passes through
(42_formatter_update.md R136 to R141, 10_state.md R31).
-/

namespace Sys2Proof.Machine

/-! ### The cycle (R136), over any two stages

The source's cycle is defined for whatever the two stages report, and R137 and R138 keep the rows its own stages cannot
reach because "a model that replaces either stage must still have an answer". -/

/-- The start of a cycle: `WTRACE` emptied, `SF` and `EF` cleared (10_state.md R30; log 25). -/
def beginCycle (s : State) : State := setEF false (setSF false (startOperation s))

/-- "immediately push the fixed error pattern" if the sensor stage failed. -/
def reportSensor (s : State) : State := if s.sf then memWrite errPattern s else s

/-- "push the fixed error pattern again" if the encoder stage failed. -/
def reportEncoder (s : State) : State := if s.ef then memWrite errPattern s else s

/-- The commit: the one write of the success path, nothing if either stage failed. -/
def commit (s : State) : State :=
  if s.sf || s.ef then enterPhase .sCommit s else memWrite s.pat (enterPhase .sCommit s)

/-- `phase <- IDLE ; return SF or EF`. -/
def finishCycle (s : State) : State := finish (s.sf || s.ef) s

/-- The whole cycle over a sensor stage and an encoder stage; the encoder stage always runs (R136, R140). -/
def cycle (sensor encoder : State → State) (s : State) : State :=
  finishCycle (commit (reportEncoder (encoder (reportSensor (sensor (beginCycle s))))))

/-- `UPDATE` (R136). -/
def execUpdate (s : State) : Host.Outcome State Fault Refusal := .next (cycle sensorStage encodeStage s)

/-- `NOP` (R139): return 0, with the trace emptied as every operation does. -/
def execNop (s : State) : Host.Outcome State Fault Refusal := .next (returnStatus false (startOperation s))

/-! ### The states inside an operation

The state after each line group of the pseudocode, the last one being the state the operation leaves; what an observer of
the ports and of `phase` could see if the operation were not taken as one transition (70_reset_and_hazards.md R178,
10_state.md R31; log 26). -/

/-- The states of a cycle: after the sensor stage, its report, the encoder stage, its report, the commit, the return. -/
def cycleStates (sensor encoder : State → State) (s : State) : List State :=
  let s1 := sensor (beginCycle s)
  let s2 := reportSensor s1
  let s3 := encoder s2
  let s4 := reportEncoder s3
  let s5 := commit s4
  [s1, s2, s3, s4, s5, finishCycle s5]

/-- The states each operation passes through. -/
def observe (i : Instr) (s : State) : List State :=
  match i with
  | .nop => [returnStatus false (startOperation s)]
  | .rdtemp => [sensorStage (startOperation s), finishRdtemp (sensorStage (startOperation s))]
  | .encode temp =>
    [encodeStage (setTemp temp (startOperation s)), finishEncode (encodeStage (setTemp temp (startOperation s)))]
  | .update => cycleStates sensorStage encodeStage s

end Sys2Proof.Machine
end

