-- ==== Sys2Proof/Machine/Dispatch.lean ====
section
/-!
DEFINITION. One arm per operation, each one call of its meaning.
-/

namespace Sys2Proof.Machine

def exec (i : Instr) (s : State) : Host.Outcome State Fault Refusal :=
  match i with
  | .nop => Sys2Proof.Machine.execNop s
  | .rdtemp => Sys2Proof.Machine.execRdtemp s
  | .encode temp => Sys2Proof.Machine.execEncode temp s
  | .update => Sys2Proof.Machine.execUpdate s

end Sys2Proof.Machine
end

