-- ==== Sys2Proof/Machine/Environment.lean ====
section
/-!
DEFINITION. What each of the environment's actions does to the block (30_encoding.md R76, 70_reset_and_hazards.md R170,
R174, R176, R177).
-/

namespace Sys2Proof.Machine

/-- What one action does. An invocation runs the operation its command word decodes to, if the block is idle
(70_reset_and_hazards.md R177); the other actions change what they name and nothing else. -/
def act (a : EnvAction) (s : State) : Host.Outcome State Fault Refusal :=
  match a with
  | .setSensor w => .next (setSensorPort w s)
  | .setStatus w => .next (setStatusPort w s)
  | .setDisplay w => .next (setDisplayPort w s)
  | .reset => .next (applyReset s)
  | .invoke cmd => if canInvoke s then exec (decode cmd) s else .refused .invokedWhileBusy

end Sys2Proof.Machine
end

