-- ==== Sys2Proof/Machine/Step.lean ====
section
/-!
DEFINITION. One step: the environment's next action (30_encoding.md R76, 70_reset_and_hazards.md R176).
-/

namespace Sys2Proof.Machine

/-- One step: the next action of the script; nothing happens while none is to come (log 22). -/
def step (s : State) : Host.Outcome State Fault Refusal :=
  match nextAction s with
  | none => .next s
  | some (a, s') => act a s'

/-- `s` with the invocation of this opcode-table word as the environment's next action, and the block idle, as an
invocation needs (R177). A number wider than a command word cannot be presented to the block and leaves `s` (log 6). -/
def State.withFetchWord (s : State) (nbits w : Nat) : State :=
  if w % 2 ^ nbits < 2 ^ 20 then
    queueAction (.invoke (BitVec.ofNat 20 (w % 2 ^ nbits))) (enterPhase .idle s)
  else s

end Sys2Proof.Machine
end

