-- ==== Sys2Proof/Safety.lean ====
section
/-!
DEFINITION. What claims about runs are stated in: the invariants of the state and the shape of what the display holds.
-/

namespace Sys2Proof

open Machine

/-! ### Invariants -/

/-- At the transaction level the block is idle in every state a model can observe (10_state.md R31). -/
def AtRest (s : State) : Prop := s.phase = .idle

/-- The words an access record lists as written. -/
def writesOf : List PortAccess → List Word
  | [] => []
  | .read _ _ :: l => writesOf l
  | .write w :: l => w :: writesOf l

/-- The input ports an access record lists as read, in order. -/
def readsOf : List PortAccess → List InPort
  | [] => []
  | .read p _ :: l => p :: readsOf l
  | .write _ :: l => readsOf l

/-- No value is written that `WTRACE` does not list (20_memory.md R49 item 4): the trace and the access record agree. -/
def TraceAgrees (s : State) : Prop := writesOf s.bus = s.wtrace

/-- At most two words are in the trace (20_memory.md R48), and two only if both are the error pattern. -/
def TraceShort (s : State) : Prop :=
  s.wtrace = [] ∨ (∃ w, s.wtrace = [w]) ∨ s.wtrace = [errPattern, errPattern]

/-- The invariant of the whole machine. -/
structure Inv (s : State) : Prop where
  atRest : AtRest s
  traceAgrees : TraceAgrees s
  traceShort : TraceShort s

/-! ### What the display can hold -/

/-- One of the ten digit glyphs (30_encoding.md R70). -/
def IsDigitGlyph (g : Glyph) : Prop := ∃ d : Fin 10, g = glyph d

/-- The four glyph fields of a pattern (30_encoding.md R67). -/
def fieldH (w : Word) : Glyph := w.extractLsb' 21 7
/-- See `fieldH`. -/
def fieldT (w : Word) : Glyph := w.extractLsb' 14 7
/-- See `fieldH`. -/
def fieldO (w : Word) : Glyph := w.extractLsb' 7 7
/-- See `fieldH`. -/
def fieldF (w : Word) : Glyph := w.extractLsb' 0 7

/-- A digit glyph, the minus or the blank. -/
def IsPlaced (g : Glyph) : Prop := IsDigitGlyph g ∨ g = minusGlyph ∨ g = blankGlyph

/-- The shape of a composed pattern (42_formatter_update.md R133). -/
structure Composed (w : Word) : Prop where
  marker : w.getLsbD 31 = true
  bit30 : w.getLsbD 30 = false
  oneUnit : w.getLsbD 29 ≠ w.getLsbD 28
  tenths : IsDigitGlyph (fieldF w)
  ones : IsPlaced (fieldO w)
  tens : IsPlaced (fieldT w)
  hundreds : IsPlaced (fieldH w)

/-- What `DISPLAY_PORT` holds once an `UPDATE` has returned (70_reset_and_hazards.md R171): a composed pattern or
`ERR`. -/
def DisplayDefined (w : Word) : Prop := Composed w ∨ w = errPattern

/-- The environment's next action is not a write of the display (R171: "provided only the block writes it"). -/
def DisplayLeftAlone (s : State) : Prop := ∀ w rest, s.script ≠ .setDisplay w :: rest

/-! ### Conditions on inputs -/

/-- The two port words make the reading a trusted one: in 0..28800 and no hardware fault (00_scope.md R12,
40_sensor_reader.md R80). -/
def Trusted (sensor status : Word) : Prop :=
  0 ≤ sensor.toInt ∧ sensor.toInt ≤ 28800 ∧ status.getLsbD 2 = false

/-- A Temperature inside the displayable range of its unit (10_state.md R28). -/
def Displayable (temp : Temperature) : Prop :=
  (temp.unit = .celsius ∧ -450 ≤ temp.mag.toInt ∧ temp.mag.toInt ≤ 450)
  ∨ (temp.unit = .fahrenheit ∧ -490 ≤ temp.mag.toInt ∧ temp.mag.toInt ≤ 1130)

end Sys2Proof
end

