-- ==== Sys2Proof/Certificates/Slice0/Obligations.lean ====
section
/-!
DEFINITION. The statements for the provers. Each docstring names what of spec/ it formalises.
-/

open Sys2Proof Sys2Proof.Machine

/-! ## Decoding and encoding -/

/-- Command words of 95_test_vectors.md (Parts 3 and 5, Program C) and the production word of 30_encoding.md R60 decode to
the operations they are listed for. -/
def Obligations.DecodeOfListedCommandWords : Prop :=
  decode 0x00000#20 = .nop ∧ decode 0x3FFFF#20 = .nop ∧ decode 0x12345#20 = .nop
  ∧ decode 0x40000#20 = .rdtemp ∧ decode 0x7FFFF#20 = .rdtemp
  ∧ decode 0xAFE16#20 = .encode { mag := BitVec.ofInt 16 (-490), unit := .fahrenheit }
  ∧ decode 0x9FE3D#20 = .encode { mag := BitVec.ofInt 16 (-451), unit := .celsius }
  ∧ decode 0xB0007#20 = .encode { mag := 7#16, unit := .error }
  ∧ decode 0x800E1#20 = .encode { mag := 225#16, unit := .unrecognised }
  ∧ decode 0xC0000#20 = .update ∧ decode 0xFFFFF#20 = .update ∧ decode productionCmd = .update

/-- 30_encoding.md R62: `CMD & mask = match` selects the operation, for every 20-bit word. -/
def Obligations.DecodeFollowsMatchAndMask : Prop :=
  ∀ w : Cmd,
    (w &&& 0xC0000#20 = 0x00000#20 ↔ decode w = .nop)
    ∧ (w &&& 0xC0000#20 = 0x40000#20 ↔ decode w = .rdtemp)
    ∧ (w &&& 0xC0000#20 = 0x80000#20 ↔ ∃ temp, decode w = .encode temp)
    ∧ (w &&& 0xC0000#20 = 0xC0000#20 ↔ decode w = .update)

/-- 30_encoding.md R61: the operand of an `ENCODE` word is bits 17:16 as the unit code and bits 15:0 read as two's
complement, both taken as numbers. -/
def Obligations.EncodeOperandIsReadFromTheWord : Prop :=
  ∀ w : Cmd, w &&& 0xC0000#20 = 0x80000#20 →
    ∃ temp, decode w = .encode temp
      ∧ temp.unit.code.toNat = w.toNat / 65536 % 4
      ∧ temp.mag.toInt
          = (if w.toNat % 65536 < 32768 then ((w.toNat % 65536 : Nat) : Int)
             else ((w.toNat % 65536 : Nat) : Int) - 65536)

/-- 30_encoding.md R63: bits 17:0 of `NOP`, `RDTEMP` and `UPDATE` words are ignored. -/
def Obligations.OperandBitsIgnoredOutsideEncode : Prop :=
  ∀ w w' : Cmd, w &&& 0xC0000#20 = w' &&& 0xC0000#20 → w &&& 0xC0000#20 ≠ 0x80000#20 → decode w = decode w'

/-- Decoding the word of any operation gives the operation back, with every operand. -/
def Obligations.DecodeOfEncodeIsIdentity : Prop :=
  ∀ i : Instr, decode (encodeCmd i) = i

/-- Encoding what a word decodes to gives the word back, its ignored bits written as zero (30_encoding.md, section 1). -/
def Obligations.EncodeOfDecodeKeepsEveryReadBit : Prop :=
  ∀ w : Cmd, encodeCmd (decode w) = if w &&& 0xC0000#20 = 0x80000#20 then w else w &&& 0xC0000#20

/-- Host script lines assemble to the words of the table in 30_encoding.md section 8: an `ENCODE` line to
`0x80000 | (unitcode << 16) | (mag & 0xFFFF)`, whose operand reads back as the line's integer; a `SET SENSOR` or
`SET STATUS` line to a host action on its own port, with the word that is the line's integer modulo `2^32` and that reads
back, as two's complement, as an integer below `2^31`. Which integers a port line may give, written signed or unsigned, is
the model's choice (log 28): the table says two's complement, 32 bits, for the sensor line only. -/
def Obligations.ScriptLinesAssembleToTheirWords : Prop :=
  (∀ (mag : Int) (u : TempUnit), -32768 ≤ mag → mag ≤ 32767 →
    ∃ w m, assemble (.encode mag u) = .invoke w
      ∧ w.toNat = 0x80000 + u.code.toNat * 0x10000 + (mag % 65536).toNat
      ∧ decode w = .encode { mag := m, unit := u } ∧ m.toInt = mag)
  ∧ (∀ v : Int, -2147483648 ≤ v → v < 4294967296 →
    ∃ w, assemble (.setSensor v) = .setSensor w ∧ assemble (.setStatus v) = .setStatus w
      ∧ (w.toNat : Int) = v % 4294967296 ∧ (v < 2147483648 → w.toInt = v))
  ∧ assemble .nop = .invoke 0x00000#20 ∧ assemble .rdtemp = .invoke 0x40000#20
  ∧ assemble .update = .invoke 0xC0000#20

/-! ## The step -/

/-- A step whose next action is an invocation runs exactly the operation its command word decodes to, on the state in
which that action is no longer to come. The script is the model's own (log 2). -/
def Obligations.StepRunsTheInvokedOperation : Prop :=
  ∀ (s : State) (cmd : Cmd) (rest : List EnvAction), s.script = .invoke cmd :: rest → s.phase = .idle →
    step s = exec (decode cmd) { s with script := rest }

/-- A command word placed for the next step runs as the operation it decodes to, on the state it was placed in, whatever
that state's script was; the block is made idle for it (log 2, log 6). -/
def Obligations.PlacedCommandWordRunsNext : Prop :=
  ∀ (s : State) (w : Nat), w < 2 ^ 20 →
    step (s.withFetchWord 24 w) = exec (decode (BitVec.ofNat 20 w)) { s with phase := .idle }
    ∧ decodeTableWord 24 w = some (decode (BitVec.ofNat 20 w))

/-- 70_reset_and_hazards.md R177: an operation may be invoked only when the block is idle; otherwise the invocation is
refused. -/
def Obligations.InvocationOnlyWhenIdle : Prop :=
  ∀ (s : State) (cmd : Cmd) (rest : List EnvAction), s.script = .invoke cmd :: rest →
    (s.phase = .idle → ∃ t, step s = .next t) ∧ (s.phase ≠ .idle → step s = .refused .invokedWhileBusy)

/-- The environment's other actions change the port they name and nothing else, and nothing happens while no action is to
come. The script is the model's own (log 2, log 20, log 22). -/
def Obligations.EnvironmentActionsChangeOnlyTheirPort : Prop :=
  ∀ (s : State) (w : Word) (rest : List EnvAction),
    (s.script = .setSensor w :: rest → step s = .next { s with sensorPort := w, script := rest })
    ∧ (s.script = .setStatus w :: rest → step s = .next { s with statusPort := w, script := rest })
    ∧ (s.script = .setDisplay w :: rest → step s = .next { s with displayPort := w, script := rest })
    ∧ (s.script = [] → step s = .next s)

/-- 70_reset_and_hazards.md R170: what reset leaves, from any state. Nothing is said of `T`, `PAT` and `RET`, which the
rule leaves unspecified; that no port is accessed is said by the ports and by the access record (log 8). -/
def Obligations.ResetClearsSequencerAndFlags : Prop :=
  ∀ (s : State) (rest : List EnvAction), s.script = .reset :: rest →
    ∃ t, step s = .next t ∧ t.phase = .idle ∧ t.sf = false ∧ t.ef = false ∧ t.wtrace = [] ∧ t.bus = []
      ∧ t.displayPort = s.displayPort ∧ t.sensorPort = s.sensorPort ∧ t.statusPort = s.statusPort

/-- 10_state.md R33: the values the spec gives for reset. -/
def Obligations.ResetStateHasTheStatedValues : Prop :=
  State.reset.phase = .idle ∧ State.reset.sf = false ∧ State.reset.ef = false ∧ State.reset.wtrace = []

/-! ## RDTEMP -/

/-- 40_sensor_reader.md R86, with its steps R80, R81, R82 and R84 written out in integers; `x / 32` and `x / 5` on
non-negative `x` are floor division, and the division by 5 truncates toward zero as 00_scope.md R9 defines it. -/
def Obligations.RdtempConvertsTheReading : Prop :=
  ∀ s : State, ∃ t, exec .rdtemp s = .next t
    ∧ t.wtrace = [] ∧ t.phase = .idle ∧ t.pat = s.pat ∧ t.ef = s.ef
    ∧ t.sensorPort = s.sensorPort ∧ t.statusPort = s.statusPort ∧ t.displayPort = s.displayPort
    ∧ (let v := s.sensorPort.toInt
       if v < 0 ∨ v > 28800 ∨ s.statusPort.getLsbD 2 = true then
         t.sf = true ∧ t.ret = 1#1 ∧ t.t.mag = 0#16 ∧ t.t.unit = .error
       else
         let c0 := v / 32 - 450
         let c := if v % 32 ≥ 16 then c0 + 1 else c0
         let q := if c * 9 ≥ 0 then c * 9 / 5 else -(-(c * 9) / 5)
         t.sf = false ∧ t.ret = 0#1
         ∧ (if s.statusPort.getLsbD 5 = true then t.t.mag.toInt = q + 320 ∧ t.t.unit = .fahrenheit
            else t.t.mag.toInt = c ∧ t.t.unit = .celsius))

/-- The rounded Celsius value is `floor((v + 16) / 32) - 450` (40_sensor_reader.md, section 1, after the first testable
property). -/
def Obligations.CelsiusIsTheNearestTenth : Prop :=
  ∀ s : State, Trusted s.sensorPort s.statusPort → s.statusPort.getLsbD 5 = false →
    ∃ t, exec .rdtemp s = .next t ∧ t.t.mag.toInt = (s.sensorPort.toInt + 16) / 32 - 450

/-- The same value from the bits of the port word: `v[14:5] + v[4] - 450` (30_encoding.md, section 6). -/
def Obligations.CelsiusFromTheBitsOfThePort : Prop :=
  ∀ s : State, Trusted s.sensorPort s.statusPort → s.statusPort.getLsbD 5 = false →
    ∃ t, exec .rdtemp s = .next t
      ∧ t.t.mag.toInt
          = ((s.sensorPort.extractLsb' 5 10).toNat : Int) + ((s.sensorPort.extractLsb' 4 1).toNat : Int) - 450

/-- In both units the result is non-decreasing in the reading (40_sensor_reader.md, section 3, shape of the
conversion). -/
def Obligations.ConversionIsMonotone : Prop :=
  ∀ s1 s2 : State, Trusted s1.sensorPort s1.statusPort → Trusted s2.sensorPort s2.statusPort →
    s1.statusPort.getLsbD 5 = s2.statusPort.getLsbD 5 → s1.sensorPort.toInt ≤ s2.sensorPort.toInt →
    ∃ t1 t2, exec .rdtemp s1 = .next t1 ∧ exec .rdtemp s2 = .next t2 ∧ t1.t.mag.toInt ≤ t2.t.mag.toInt

/-- Which readings give each Celsius value (40_sensor_reader.md, section 3, shape of the conversion). -/
def Obligations.ReadingsOfEachCelsiusValue : Prop :=
  ∀ s : State, Trusted s.sensorPort s.statusPort → s.statusPort.getLsbD 5 = false →
    ∃ t, exec .rdtemp s = .next t
      ∧ (t.t.mag.toInt = -450 ↔ s.sensorPort.toInt ≤ 15)
      ∧ (t.t.mag.toInt = 450 ↔ 28784 ≤ s.sensorPort.toInt)
      ∧ ∀ k : Int, -449 ≤ k → k ≤ 449 →
          (t.t.mag.toInt = k
            ↔ 32 * (k + 450) - 16 ≤ s.sensorPort.toInt ∧ s.sensorPort.toInt ≤ 32 * (k + 450) + 15)

/-- Distinct Celsius values stay distinct in Fahrenheit, and every Celsius value lands in -490..1130
(40_sensor_reader.md, section 3). -/
def Obligations.FahrenheitKeepsCelsiusApart : Prop :=
  ∀ c d : Int, -450 ≤ c → c ≤ 450 → -450 ≤ d → d ≤ 450 →
    (fahrenheitOf c = fahrenheitOf d → c = d) ∧ -490 ≤ fahrenheitOf c ∧ fahrenheitOf c ≤ 1130

/-- The range law (40_sensor_reader.md, section 3): a status of 0 comes with a displayable Temperature, a status of 1 with
exactly `{0, Error}`, and the unit code is never `0b00`. -/
def Obligations.RdtempAnswersInRange : Prop :=
  ∀ s : State, ∃ t, exec .rdtemp s = .next t
    ∧ (t.ret = 0#1 → Displayable t.t) ∧ (t.ret = 1#1 → t.t = { mag := 0#16, unit := .error })
    ∧ t.t.unit ≠ .unrecognised

/-- 30_encoding.md R65: the two bits taken from the status word. -/
def Obligations.StatusBitsByMask : Prop :=
  ∀ w : Word, (hwFault w = true ↔ w &&& 0x00000004#32 ≠ 0#32) ∧ (fMode w = true ↔ w &&& 0x00000020#32 ≠ 0#32)

/-! ## ENCODE -/

/-- 42_formatter_update.md R134, with its steps R100, R101, R102, R104 to R108, R130, R131 written out on natural numbers
from the pseudocode; `m`, `u` are the operand, `g` the glyph lookup. Clause (e) of the tens field is the one R106 adds. -/
def Obligations.EncodeComposesThePattern : Prop :=
  ∀ (m : Mag) (u : TempUnit) (s : State), ∃ t, exec (.encode { mag := m, unit := u }) s = .next t
    ∧ t.t = { mag := m, unit := u } ∧ t.wtrace = [] ∧ t.phase = .idle ∧ t.sf = s.sf
    ∧ t.sensorPort = s.sensorPort ∧ t.statusPort = s.statusPort ∧ t.displayPort = s.displayPort
    ∧ (if u = .error ∨ (u = .celsius ∧ (m.toInt < -450 ∨ m.toInt > 450)) ∨ (u ≠ .celsius ∧ u ≠ .fahrenheit)
          ∨ (u = .fahrenheit ∧ (m.toInt < -490 ∨ m.toInt > 1130)) then
         t.ef = true ∧ t.ret = 1#1 ∧ t.pat = 0x06F7EF80#32
       else
         t.ef = false ∧ t.ret = 0#1
         ∧ (let neg := m.toInt < 0
            let a := m.toInt.natAbs
            let f := a % 10
            let o := a / 10 % 10
            let tn := a / 100 % 10
            let h := a / 1000 % 10
            let g := fun d : Nat => glyph (Fin.ofNat 10 d)
            let minus := 0b0000100#7
            let blank := 0b0000000#7
            let hF := if h ≠ 0 then g h else if neg ∧ tn ≠ 0 then minus else blank
            let tF := if tn = 0 ∧ h ≠ 0 then g 0 else if neg ∧ h = 0 ∧ tn = 0 ∧ o ≠ 0 then minus
              else if h = 0 ∧ tn = 0 ∧ o = 0 then blank else if tn ≠ 0 then g tn else blank
            let oF := if o ≠ 0 then g o else if h = 0 ∧ tn = 0 ∧ f ≠ 0 then minus
              else if h = 0 ∧ tn = 0 ∧ f = 0 then blank else g 0
            t.pat.toNat = 2 ^ 31 + (if u = .fahrenheit then 2 ^ 29 else 0) + (if u = .celsius then 2 ^ 28 else 0)
              + hF.toNat * 2 ^ 21 + tF.toNat * 2 ^ 14 + oF.toNat * 2 ^ 7 + (g f).toNat))

/-- The encoder accepts exactly the displayable Temperatures (41_digit_glyph_encoder.md, section 1, the equivalent form),
bounds included. -/
def Obligations.EncodeAcceptsExactlyTheDisplayable : Prop :=
  ∀ (temp : Temperature) (s : State), ∃ t, exec (.encode temp) s = .next t
    ∧ (t.ef = false ↔ Displayable temp) ∧ (t.ret = 0#1 ↔ Displayable temp)

/-- 30_encoding.md R70 and R71: the glyph table and the two other glyphs. -/
def Obligations.GlyphTableValues : Prop :=
  glyph 0 = 0x7B#7 ∧ glyph 1 = 0x48#7 ∧ glyph 2 = 0x3D#7 ∧ glyph 3 = 0x6D#7 ∧ glyph 4 = 0x4E#7
  ∧ glyph 5 = 0x67#7 ∧ glyph 6 = 0x77#7 ∧ glyph 7 = 0x49#7 ∧ glyph 8 = 0x7F#7 ∧ glyph 9 = 0x6F#7
  ∧ minusGlyph = 0x04#7 ∧ blankGlyph = 0x00#7

/-- The digits recompose the magnitude, the hundreds digit is 0 or 1, and a negative displayable value has no hundreds and
a tens digit of at most 4 (41_digit_glyph_encoder.md, section 2). -/
def Obligations.DigitsRecomposeTheMagnitude : Prop :=
  ∀ m : Int, -490 ≤ m → m ≤ 1130 →
    let d := digitsOf (absMagnitude m)
    1000 * d.h.val + 100 * d.t.val + 10 * d.o.val + d.f.val = m.natAbs
    ∧ d.h.val ≤ 1 ∧ (m < 0 → d.h = 0 ∧ d.t.val ≤ 4)

/-- The complete placement table by magnitude (41_digit_glyph_encoder.md, section 4): the sign or the first digit, the
blanks to its left, the zeros to its right, and the readings of log 9, 10 and 11 at 10..99, 0 and 1..9. -/
def Obligations.PlacementByMagnitude : Prop :=
  ∀ (m : Mag) (u : TempUnit) (s : State), Displayable { mag := m, unit := u } →
    ∃ t, exec (.encode { mag := m, unit := u }) s = .next t
      ∧ (let a := m.toInt.natAbs
         let g := fun d : Nat => glyph (Fin.ofNat 10 d)
         let sign := if m.toInt < 0 then minusGlyph else blankGlyph
         fieldF t.pat = g (a % 10)
         ∧ (1000 ≤ a → fieldH t.pat = g 1 ∧ fieldT t.pat = g (a / 100 % 10) ∧ fieldO t.pat = g (a / 10 % 10))
         ∧ (100 ≤ a → a ≤ 999 → fieldH t.pat = sign ∧ fieldT t.pat = g (a / 100) ∧ fieldO t.pat = g (a / 10 % 10))
         ∧ (10 ≤ a → a ≤ 99 → fieldH t.pat = blankGlyph ∧ fieldT t.pat = sign ∧ fieldO t.pat = g (a / 10))
         ∧ (1 ≤ a → a ≤ 9 → fieldH t.pat = blankGlyph ∧ fieldT t.pat = blankGlyph ∧ fieldO t.pat = minusGlyph)
         ∧ (a = 0 → fieldH t.pat = blankGlyph ∧ fieldT t.pat = blankGlyph ∧ fieldO t.pat = blankGlyph))

/-- The minus glyph appears in exactly one field for a negative magnitude, in the ones field alone for 1..9, and nowhere
for any other magnitude (41_digit_glyph_encoder.md, section 4, consequence 2; log 11). -/
def Obligations.MinusAppearsInAtMostOneField : Prop :=
  ∀ (m : Mag) (u : TempUnit) (s : State), Displayable { mag := m, unit := u } →
    ∃ t, exec (.encode { mag := m, unit := u }) s = .next t
      ∧ ([fieldH t.pat, fieldT t.pat, fieldO t.pat, fieldF t.pat].count minusGlyph
          = if m.toInt < 0 ∨ (1 ≤ m.toInt ∧ m.toInt ≤ 9) then 1 else 0)
      ∧ (1 ≤ m.toInt → m.toInt ≤ 9 → fieldO t.pat = minusGlyph)

/-- Two displayable magnitudes of one unit give the same pattern exactly when they are equal or are `+k` and `-k` with `k`
in 1..9 (41_digit_glyph_encoder.md, section 4, consequence 1; log 11). -/
def Obligations.PatternsCoincideOnlyNearZero : Prop :=
  ∀ (m n : Mag) (u : TempUnit) (s : State), Displayable { mag := m, unit := u } → Displayable { mag := n, unit := u } →
    ∃ t t', exec (.encode { mag := m, unit := u }) s = .next t ∧ exec (.encode { mag := n, unit := u }) s = .next t'
      ∧ (t.pat = t'.pat ↔ m = n ∨ (m.toInt = -n.toInt ∧ 1 ≤ m.toInt.natAbs ∧ m.toInt.natAbs ≤ 9))

/-- What `ENCODE` can produce (42_formatter_update.md, section 1, shape of every value): `ERR`, or a composed pattern whose
unit bits name the operand's unit; and the two are told apart by bit 31. -/
def Obligations.EncodeProducesErrOrComposed : Prop :=
  ∀ (temp : Temperature) (s : State), ∃ t, exec (.encode temp) s = .next t
    ∧ (t.ret = 1#1 → t.pat = 0x06F7EF80#32 ∧ t.pat.getLsbD 31 = false)
    ∧ (t.ret = 0#1 → Composed t.pat ∧ (t.pat.getLsbD 28 = true ↔ temp.unit = .celsius)
        ∧ (t.pat.getLsbD 29 = true ↔ temp.unit = .fahrenheit))

/-- 42_formatter_update.md R135: the answer to an `ENCODE` depends on its operand alone, so repeating it, with anything in
between, gives the same answer. -/
def Obligations.EncodeIsAFunctionOfItsOperand : Prop :=
  ∀ (temp : Temperature) (s1 s2 : State), ∃ t1 t2,
    exec (.encode temp) s1 = .next t1 ∧ exec (.encode temp) s2 = .next t2
    ∧ t1.pat = t2.pat ∧ t1.ef = t2.ef ∧ t1.ret = t2.ret ∧ t1.t = t2.t

/-- The three readings the spec fixes where it offers a parameter (93_implementation_defined.md U2, U3, U4; log 9, 10, 11)
matter at the magnitudes 0..99 only: everywhere else every policy gives the same pattern (95_test_vectors.md, Part 7). -/
def Obligations.PolicyMattersOnlyFromZeroToNinetyNine : Prop :=
  ∀ (p : PlacementPolicy) (temp : Temperature), Displayable temp → (temp.mag.toInt < 0 ∨ 99 < temp.mag.toInt) →
    patternWith p temp = patternOf temp

/-! ## UPDATE, NOP, and the operations together -/

/-- 42_formatter_update.md R136: the cycle is the sensor stage, then always the encoder stage on whatever Temperature
resulted, with the error pattern written once for each stage that failed and the encoded pattern written if neither did. -/
def Obligations.UpdateRunsBothStagesInSequence : Prop :=
  ∀ s : State, ∃ r e t, exec .rdtemp s = .next r ∧ exec (.encode r.t) r = .next e ∧ exec .update s = .next t
    ∧ t.t = r.t ∧ t.sf = r.sf ∧ t.pat = e.pat ∧ t.ef = e.ef
    ∧ t.ret = (if r.sf = true ∨ e.ef = true then 1#1 else 0#1)
    ∧ t.wtrace = (if r.sf = true then [0x06F7EF80#32] else []) ++ (if e.ef = true then [0x06F7EF80#32] else [])
        ++ (if r.sf = true ∨ e.ef = true then [] else [e.pat])
    ∧ t.wtrace.getLast? = some t.displayPort
    ∧ t.phase = .idle ∧ t.sensorPort = s.sensorPort ∧ t.statusPort = s.statusPort

/-- What `UPDATE` leaves when driven from the ports (42_formatter_update.md, section 3: inside `UPDATE`, `EF = SF`): a
composed pattern written once and status 0 for a trusted reading, `ERR` written twice and status 1 for any other. -/
def Obligations.UpdateOutcomeFromThePorts : Prop :=
  ∀ s : State, ∃ t, exec .update s = .next t ∧ t.ef = t.sf
    ∧ (Trusted s.sensorPort s.statusPort →
        t.sf = false ∧ t.ret = 0#1 ∧ t.wtrace = [t.pat] ∧ t.displayPort = t.pat ∧ Composed t.pat ∧ Displayable t.t)
    ∧ (¬ Trusted s.sensorPort s.statusPort →
        t.sf = true ∧ t.ret = 1#1 ∧ t.wtrace = [0x06F7EF80#32, 0x06F7EF80#32] ∧ t.displayPort = 0x06F7EF80#32
        ∧ t.pat = 0x06F7EF80#32 ∧ t.t = { mag := 0#16, unit := .error })

/-- 42_formatter_update.md R137, all four rows: the writes and the end state of a cycle by the two flags, whatever the two
stages are, as long as the sensor stage writes nothing and the encoder stage touches neither the trace, the display nor
`SF`; and the last column, which rows the block's own stages reach from the ports. -/
def Obligations.CycleWritesByTheTwoFlags : Prop :=
  (∀ (sensor encoder : State → State) (s : State),
    (∀ x, (sensor x).wtrace = x.wtrace) →
    (∀ x, (encoder x).wtrace = x.wtrace ∧ (encoder x).displayPort = x.displayPort ∧ (encoder x).sf = x.sf) →
    (let t := cycle sensor encoder s
     let sfBit := (sensor (beginCycle s)).sf
     let e := encoder (reportSensor (sensor (beginCycle s)))
     t.wtrace = (match sfBit, e.ef with
       | false, false => [e.pat]
       | true, true => [0x06F7EF80#32, 0x06F7EF80#32]
       | false, true => [0x06F7EF80#32]
       | true, false => [0x06F7EF80#32])
     ∧ t.displayPort = (if sfBit = true ∨ e.ef = true then 0x06F7EF80#32 else e.pat)
     ∧ t.ret = (if sfBit = true ∨ e.ef = true then 1#1 else 0#1)))
  ∧ ∀ s : State, ∃ t, exec .update s = .next t
      ∧ ((t.sf = false ∧ t.ef = false) ↔ Trusted s.sensorPort s.statusPort)
      ∧ ((t.sf = true ∧ t.ef = true) ↔ ¬ Trusted s.sensorPort s.statusPort)

/-- 42_formatter_update.md R139: what `NOP` does and what it leaves; that it accesses no port is said by the ports and by
the access record (log 8). -/
def Obligations.NopReturnsZeroAndLeavesTheRest : Prop :=
  ∀ s : State, ∃ t, exec .nop s = .next t ∧ t.ret = 0#1 ∧ t.wtrace = [] ∧ t.bus = [] ∧ t.t = s.t ∧ t.pat = s.pat ∧ t.sf = s.sf
    ∧ t.ef = s.ef ∧ t.sensorPort = s.sensorPort ∧ t.statusPort = s.statusPort ∧ t.displayPort = s.displayPort

/-- Every operation is a function of its inputs alone (10_state.md, section 6): two states that agree on the two input
ports, and on nothing else, answer alike. -/
def Obligations.ResultsDependOnInputPortsAlone : Prop :=
  ∀ s1 s2 : State, s1.sensorPort = s2.sensorPort → s1.statusPort = s2.statusPort →
    (∃ t1 t2, exec .rdtemp s1 = .next t1 ∧ exec .rdtemp s2 = .next t2
      ∧ t1.t = t2.t ∧ t1.sf = t2.sf ∧ t1.ret = t2.ret ∧ t1.wtrace = t2.wtrace)
    ∧ (∃ t1 t2, exec .update s1 = .next t1 ∧ exec .update s2 = .next t2
      ∧ t1.t = t2.t ∧ t1.pat = t2.pat ∧ t1.sf = t2.sf ∧ t1.ef = t2.ef ∧ t1.ret = t2.ret ∧ t1.wtrace = t2.wtrace
      ∧ t1.displayPort = t2.displayPort)

/-- What each operation leaves unchanged: the input ports always, the display but for `UPDATE`, and every latch and flag
that its rule does not name. `script` and `draws` are the model's own (log 1, log 2). That `NOP` leaves `phase` is the
model's inference (log 23): 42_formatter_update.md section 4 does not mention `phase`, and 10_state.md section 4 says only
that `NOP` leaves it `IDLE`. -/
def Obligations.OperationsLeaveTheRestUnchanged : Prop :=
  ∀ (i : Instr) (s t : State), exec i s = .next t →
    t.sensorPort = s.sensorPort ∧ t.statusPort = s.statusPort ∧ t.script = s.script ∧ t.draws = s.draws
    ∧ (i = .nop → t.t = s.t ∧ t.pat = s.pat ∧ t.sf = s.sf ∧ t.ef = s.ef ∧ t.phase = s.phase)
    ∧ (i = .rdtemp → t.pat = s.pat ∧ t.ef = s.ef)
    ∧ (∀ temp, i = .encode temp → t.sf = s.sf ∧ t.t = temp)
    ∧ (i ≠ .update → t.displayPort = s.displayPort ∧ t.wtrace = [])

/-- 20_memory.md R47 and the table of R40: which ports each operation reads, how often and in which order, whatever the
port contents are; every read returns the port's content and precedes every write. -/
def Obligations.PortAccessesOfEachOperation : Prop :=
  ∀ s : State,
    (∃ t, exec .nop s = .next t ∧ t.bus = [])
    ∧ (∃ t, exec .rdtemp s = .next t ∧ t.bus = [.read .sensor s.sensorPort, .read .status s.statusPort])
    ∧ (∀ temp, ∃ t, exec (.encode temp) s = .next t ∧ t.bus = [])
    ∧ (∃ t, exec .update s = .next t
        ∧ t.bus = [.read .sensor s.sensorPort, .read .status s.statusPort] ++ t.wtrace.map .write)

/-- 20_memory.md R48: one `UPDATE` writes the display once on the success path and the error pattern once or twice on a
failure path; no other operation writes a port. -/
def Obligations.OnlyUpdateWritesOnceOrTwice : Prop :=
  ∀ s : State,
    (∃ t, exec .update s = .next t ∧ (t.ret = 0#1 → t.wtrace.length = 1)
      ∧ (t.ret = 1#1 → (t.wtrace.length = 1 ∨ t.wtrace.length = 2) ∧ ∀ w ∈ t.wtrace, w = 0x06F7EF80#32))
    ∧ ∀ i : Instr, i ≠ .update → ∃ t, exec i s = .next t ∧ t.wtrace = [] ∧ t.displayPort = s.displayPort

/-- 10_state.md R31: the sequencer's way through each operation, and `IDLE` at the end of every operation that starts
idle. The points at which `phase` is looked at are the model's own (log 26). -/
def Obligations.PhaseSequenceOfEachOperation : Prop :=
  ∀ s : State, s.phase = .idle →
    (observe .nop s).map (·.phase) = [.idle]
    ∧ (observe .rdtemp s).map (·.phase) = [.sRead, .idle]
    ∧ (∀ temp, (observe (.encode temp) s).map (·.phase) = [.sEnc, .idle])
    ∧ (observe .update s).map (·.phase) = [.sRead, .sRead, .sEnc, .sEnc, .sCommit, .idle]
    ∧ ∀ i t, exec i s = .next t → t.phase = .idle

/-- The last of the states an operation passes through is the state it leaves (log 26). -/
def Obligations.ObservedStatesEndInTheResult : Prop :=
  ∀ (i : Instr) (s : State), ∃ t, exec i s = .next t ∧ (observe i s).getLast? = some t

/-- What an observer of the display sees inside a cycle (70_reset_and_hazards.md, section 3): the previous content until
the first write, then the new pattern, or `ERR` and nothing but `ERR`. -/
def Obligations.DisplaySeenDuringACycle : Prop :=
  ∀ s : State, ∃ t, exec .update s = .next t
    ∧ (t.ret = 0#1 →
        (observe .update s).map (·.displayPort)
          = [s.displayPort, s.displayPort, s.displayPort, s.displayPort, t.pat, t.pat])
    ∧ (t.ret = 1#1 →
        (observe .update s).map (·.displayPort)
          = [s.displayPort, 0x06F7EF80#32, 0x06F7EF80#32, 0x06F7EF80#32, 0x06F7EF80#32, 0x06F7EF80#32])

/-- After an `UPDATE`, bit 31 of the display is the complement of the status code, bit 30 is 0 and the trace has one word
more than the status code (30_encoding.md section 4; 95_test_vectors.md Part 4). -/
def Obligations.DisplayMarkerIsComplementOfStatus : Prop :=
  ∀ s : State, ∃ t, exec .update s = .next t
    ∧ t.displayPort.getLsbD 31 = !(t.ret.getLsbD 0) ∧ t.displayPort.getLsbD 30 = false
    ∧ t.wtrace.length = 1 + t.ret.toNat

/-! ## Faults, invariants, runs -/

/-- `raise` sets the fault's flag and writes the stage's sentinel: the first two of the three things it does by
60_exceptions.md, section 4. The third, the stage's status 1, the model leaves to the return that reads the flag, so that
`raise` here touches nothing else: the model's choice (log 24). -/
def Obligations.RaiseSetsFlagAndSentinelOnly : Prop :=
  ∀ s : State,
    raise .sensorFault s = { s with sf := true, t := { mag := 0#16, unit := .error } }
    ∧ raise .encodingRangeFault s = { s with ef := true, pat := 0x06F7EF80#32 }

/-- 60_exceptions.md R150: the cause of `SensorFault`, its recovery by the sentinel Temperature, and the failure status it
surfaces as, in both operations that can raise it. -/
def Obligations.SensorFaultCauseAndRecovery : Prop :=
  ∀ (i : Instr) (s : State), i = .rdtemp ∨ i = .update →
    ∃ t, exec i s = .next t
      ∧ (let cause := s.sensorPort.toInt < 0 ∨ s.sensorPort.toInt > 28800 ∨ s.statusPort.getLsbD 2 = true
         (t.sf = true ↔ cause) ∧ (t.ret = 1#1 ↔ cause) ∧ (cause → t.t.mag = 0#16 ∧ t.t.unit = .error))

/-- 60_exceptions.md R151: the cause of `EncodingRangeFault`, its recovery by the fixed error pattern, and the failure status
it surfaces as, for any operand of `ENCODE` and for whatever Temperature the sensor stage of `UPDATE` produced. -/
def Obligations.EncodingRangeFaultCauseAndRecovery : Prop :=
  ∀ (i : Instr) (s : State), (∃ temp, i = .encode temp) ∨ i = .update →
    ∃ t, exec i s = .next t
      ∧ (let m := t.t.mag.toInt
         let cause := t.t.unit = .error ∨ (t.t.unit = .celsius ∧ (m < -450 ∨ m > 450))
           ∨ (t.t.unit ≠ .celsius ∧ t.t.unit ≠ .fahrenheit) ∨ (t.t.unit = .fahrenheit ∧ (m < -490 ∨ m > 1130))
         (t.ef = true ↔ cause) ∧ (t.ret = 1#1 ↔ cause) ∧ (cause → t.pat = 0x06F7EF80#32)
         ∧ ∀ temp, i = .encode temp → t.t = temp)

/-- A fault leaves nothing behind for the next cycle (60_exceptions.md, section 4): whatever the first `UPDATE` of a script
found, an `UPDATE` after the environment has set trusted readings succeeds. The script is the model's own (log 2). -/
def Obligations.CycleAfterAFaultRecovers : Prop :=
  ∀ (s : State) (v st : Word), AtRest s → Trusted v st →
    s.script = [.invoke 0xC0000#20, .setSensor v, .setStatus st, .invoke 0xC0000#20] →
    ∃ t, core.run 4 s = .next t ∧ t.ret = 0#1 ∧ t.sf = false ∧ t.ef = false ∧ Composed t.displayPort
      ∧ t.wtrace = [t.displayPort] ∧ t.script = []

/-- No fault is escalated as an abort, and the one refusal is an invocation while busy (60_exceptions.md, section 1;
log 18). -/
def Obligations.NothingStopsButAnInvocationWhileBusy : Prop :=
  (∀ (i : Instr) (s : State), ∃ t, exec i s = .next t)
  ∧ (∀ (s : State) (f : Fault), step s ≠ .fault f)
  ∧ (∀ (s : State) (r : Refusal), step s = .refused r →
      r = .invokedWhileBusy ∧ s.phase ≠ .idle ∧ ∃ cmd rest, s.script = .invoke cmd :: rest)

/-- The invariant of the machine holds at reset. -/
def Obligations.ResetStateMeetsTheInvariant : Prop := Inv State.reset

/-- From every state that meets the invariant a step answers a next state, which meets it again: idle between operations,
no display write outside the trace, at most two writes a cycle (10_state.md section 4, 20_memory.md section 4). -/
def Obligations.StepProgressesAndKeepsTheInvariant : Prop :=
  ∀ s : State, Inv s → ∃ t, step s = .next t ∧ Inv t

/-- However long the machine runs, on whatever script, it never stops and the invariant holds (42_formatter_update.md
section 5: every operation terminates). -/
def Obligations.RunsNeverStopAndKeepTheInvariant : Prop :=
  ∀ (k : Nat) (s : State), Inv s → ∃ t, core.run k s = .next t ∧ Inv t

/-- A script is used up in as many steps as it has actions, and the block is then idle (42_formatter_update.md section 5;
log 2). -/
def Obligations.ScriptsRunToTheirEnd : Prop :=
  ∀ s : State, AtRest s → ∃ t, core.run s.script.length s = .next t ∧ t.script = [] ∧ AtRest t

/-- An `UPDATE` leaves the display holding a composed pattern or `ERR`, whatever it held before (70_reset_and_hazards.md,
section 1). -/
def Obligations.UpdateDefinesTheDisplay : Prop :=
  ∀ s : State, ∃ t, exec .update s = .next t ∧ DisplayDefined t.displayPort

/-- From then on the display always holds one of the two, provided only the block writes it (70_reset_and_hazards.md,
section 1). -/
def Obligations.StepKeepsTheDisplayDefined : Prop :=
  ∀ s t : State, DisplayDefined s.displayPort → DisplayLeftAlone s → step s = .next t → DisplayDefined t.displayPort
end

