-- ==== Sys2Proof/Laws/Arith.lean ====
section
/-!
SUPPORT. Arithmetic of the conversion and of the digits: no narrowing loses anything in range (40_sensor_reader.md R87,
41_digit_glyph_encoder.md R112), and each definition in the form decision procedures read.
-/

namespace Sys2Proof.Machine

/-- A value in the signed 16-bit range survives being stored. -/
theorem toInt_ofInt_mag {x : Int} (lo : -32768 ≤ x) (hi : x ≤ 32767) : (BitVec.ofInt 16 x : Mag).toInt = x := by
  rw [BitVec.toInt_ofInt]
  exact Int.bmod_eq_of_le (by omega) (by omega)

/-- The arithmetic shift is floor division by 32. -/
theorem scale_eq_div (v : Int) : scale v = v / 32 - 450 := by
  simp [scale, scaleShift, zeroOffset, Int.shiftRight_eq_div_pow]

/-- The rounding, with its constants written out. -/
theorem roundUp_eq (v c : Int) : roundUp v c = if v % 32 ≥ 16 then c + 1 else c := rfl

/-- Division truncating toward zero on a negative dividend. -/
theorem tdiv_five_of_neg {x : Int} (h : x < 0) : x.tdiv 5 = -((-x) / 5) := by
  have : x = -(-x) := by omega
  rw [this, Int.neg_tdiv, Int.tdiv_eq_ediv_of_nonneg (by omega)]
  omega

/-- Division truncating toward zero on a non-negative dividend. -/
theorem tdiv_five_of_nonneg {x : Int} (h : 0 ≤ x) : x.tdiv 5 = x / 5 :=
  Int.tdiv_eq_ediv_of_nonneg h

/-- Taking the absolute value by explicit negation is `natAbs`. -/
theorem absMagnitude_eq_natAbs (m : Int) : absMagnitude m = m.natAbs := by
  unfold absMagnitude isNegative
  split <;> rename_i h <;> simp at h <;> omega

theorem isNegative_iff (m : Int) : isNegative m = true ↔ m < 0 := by
  simp [isNegative]

/-! ### Digits as natural numbers -/

theorem digitsOf_f_val (a : Nat) : (digitsOf a).f.val = a % 10 := rfl

theorem digitsOf_o_val (a : Nat) : (digitsOf a).o.val = a / 10 % 10 := rfl

theorem digitsOf_t_val (a : Nat) : (digitsOf a).t.val = a / 100 % 10 := rfl

theorem digitsOf_h_val (a : Nat) : (digitsOf a).h.val = a / 1000 % 10 := rfl

/-- No two digits share a glyph (30_encoding.md R70). -/
theorem glyph_injective : Function.Injective glyph := by
  intro a b
  revert a b
  decide

theorem glyph_ne_minus (d : Fin 10) : glyph d ≠ minusGlyph := by
  revert d
  decide

theorem glyph_ne_blank (d : Fin 10) : glyph d ≠ blankGlyph := by
  revert d
  decide

end Sys2Proof.Machine
end

