-- ==== Sys2Proof/Laws/Encoding.lean ====
section
/-!
SUPPORT. Command words as numbers: the fields by division and remainder, and the encoder's word as a sum
(30_encoding.md R60), so that round trips are linear arithmetic.
-/

namespace Sys2Proof

theorem cmdOp_toNat (w : Cmd) : (cmdOp w).toNat = w.toNat / 262144 % 4 := by
  simp [cmdOp, Nat.shiftRight_eq_div_pow]

theorem cmdUnit_toNat (w : Cmd) : (cmdUnit w).toNat = w.toNat / 65536 % 4 := by
  simp [cmdUnit, Nat.shiftRight_eq_div_pow]

theorem cmdMag_toNat (w : Cmd) : (cmdMag w).toNat = w.toNat % 65536 := by
  simp [cmdMag]

/-- A concatenation as a number. -/
theorem append_toNat {m n : Nat} (x : BitVec m) (y : BitVec n) : (x ++ y).toNat = x.toNat * 2 ^ n + y.toNat := by
  rw [BitVec.toNat_append, ← Nat.shiftLeft_add_eq_or_of_lt y.isLt, Nat.shiftLeft_eq]

/-- The encoder's word as a number. -/
theorem encodeCmd_toNat (i : Instr) : (encodeCmd i).toNat = i.op.toNat * 262144 + i.operandBits.toNat :=
  append_toNat i.op i.operandBits

/-- The operand of an `ENCODE` as a number (R64). -/
theorem operandBits_encode_toNat (temp : Temperature) :
    (Instr.encode temp).operandBits.toNat = temp.unit.code.toNat * 65536 + temp.mag.toNat :=
  append_toNat temp.unit.code temp.mag

/-- The mask of spec/opcode_table.json keeps the operation code. -/
theorem and_mask_toNat (w : Cmd) : (w &&& 0xC0000#20).toNat = (cmdOp w).toNat * 262144 := by
  have h : w &&& 0xC0000#20 = (w >>> 18) <<< 18 := by
    apply BitVec.eq_of_getLsbD_eq
    intro i hi
    have hmask : (0xC0000#20).getLsbD i = decide (18 ≤ i) := by
      interval_cases i <;> decide
    rw [BitVec.getLsbD_and, hmask, BitVec.getLsbD_shiftLeft, BitVec.getLsbD_ushiftRight]
    by_cases h18 : i < 18
    · have : ¬ 18 ≤ i := by omega
      simp [h18, this]
    · have : 18 ≤ i := by omega
      simp [hi, this]
  have hw := w.isLt
  rw [h, cmdOp_toNat, BitVec.toNat_shiftLeft, BitVec.toNat_ushiftRight, Nat.shiftLeft_eq, Nat.shiftRight_eq_div_pow]
  omega

theorem unitOfCode_code (u : TempUnit) : unitOfCode u.code = u := by
  cases u <;> decide

theorem code_unitOfCode (c : BitVec 2) : (unitOfCode c).code = c := by
  revert c
  decide

end Sys2Proof
end

