-- ==== Sys2Proof/Laws/State.lean ====
section
/-!
SUPPORT. One lemma per field per state update, so that no later proof unfolds a record update.
-/

namespace Sys2Proof.Machine

variable (s : State)

/-! ### afterRead -/

@[simp] theorem afterRead_sensorPort (p : InPort) : (afterRead p s).sensorPort = s.sensorPort := rfl
@[simp] theorem afterRead_statusPort (p : InPort) : (afterRead p s).statusPort = s.statusPort := rfl
@[simp] theorem afterRead_displayPort (p : InPort) : (afterRead p s).displayPort = s.displayPort := rfl
@[simp] theorem afterRead_t (p : InPort) : (afterRead p s).t = s.t := rfl
@[simp] theorem afterRead_pat (p : InPort) : (afterRead p s).pat = s.pat := rfl
@[simp] theorem afterRead_sf (p : InPort) : (afterRead p s).sf = s.sf := rfl
@[simp] theorem afterRead_ef (p : InPort) : (afterRead p s).ef = s.ef := rfl
@[simp] theorem afterRead_ret (p : InPort) : (afterRead p s).ret = s.ret := rfl
@[simp] theorem afterRead_wtrace (p : InPort) : (afterRead p s).wtrace = s.wtrace := rfl
@[simp] theorem afterRead_phase (p : InPort) : (afterRead p s).phase = s.phase := rfl
@[simp] theorem afterRead_bus (p : InPort) : (afterRead p s).bus = s.bus ++ [.read p (s.inPort p)] := rfl
@[simp] theorem afterRead_script (p : InPort) : (afterRead p s).script = s.script := rfl
@[simp] theorem afterRead_draws (p : InPort) : (afterRead p s).draws = s.draws := rfl

/-! ### memWrite -/

@[simp] theorem memWrite_sensorPort (w : Word) : (memWrite w s).sensorPort = s.sensorPort := rfl
@[simp] theorem memWrite_statusPort (w : Word) : (memWrite w s).statusPort = s.statusPort := rfl
@[simp] theorem memWrite_displayPort (w : Word) : (memWrite w s).displayPort = w := rfl
@[simp] theorem memWrite_t (w : Word) : (memWrite w s).t = s.t := rfl
@[simp] theorem memWrite_pat (w : Word) : (memWrite w s).pat = s.pat := rfl
@[simp] theorem memWrite_sf (w : Word) : (memWrite w s).sf = s.sf := rfl
@[simp] theorem memWrite_ef (w : Word) : (memWrite w s).ef = s.ef := rfl
@[simp] theorem memWrite_ret (w : Word) : (memWrite w s).ret = s.ret := rfl
@[simp] theorem memWrite_wtrace (w : Word) : (memWrite w s).wtrace = s.wtrace ++ [w] := rfl
@[simp] theorem memWrite_phase (w : Word) : (memWrite w s).phase = s.phase := rfl
@[simp] theorem memWrite_bus (w : Word) : (memWrite w s).bus = s.bus ++ [.write w] := rfl
@[simp] theorem memWrite_script (w : Word) : (memWrite w s).script = s.script := rfl
@[simp] theorem memWrite_draws (w : Word) : (memWrite w s).draws = s.draws := rfl

/-! ### setTemp -/

@[simp] theorem setTemp_sensorPort (x : Temperature) : (setTemp x s).sensorPort = s.sensorPort := rfl
@[simp] theorem setTemp_statusPort (x : Temperature) : (setTemp x s).statusPort = s.statusPort := rfl
@[simp] theorem setTemp_displayPort (x : Temperature) : (setTemp x s).displayPort = s.displayPort := rfl
@[simp] theorem setTemp_t (x : Temperature) : (setTemp x s).t = x := rfl
@[simp] theorem setTemp_pat (x : Temperature) : (setTemp x s).pat = s.pat := rfl
@[simp] theorem setTemp_sf (x : Temperature) : (setTemp x s).sf = s.sf := rfl
@[simp] theorem setTemp_ef (x : Temperature) : (setTemp x s).ef = s.ef := rfl
@[simp] theorem setTemp_ret (x : Temperature) : (setTemp x s).ret = s.ret := rfl
@[simp] theorem setTemp_wtrace (x : Temperature) : (setTemp x s).wtrace = s.wtrace := rfl
@[simp] theorem setTemp_phase (x : Temperature) : (setTemp x s).phase = s.phase := rfl
@[simp] theorem setTemp_bus (x : Temperature) : (setTemp x s).bus = s.bus := rfl
@[simp] theorem setTemp_script (x : Temperature) : (setTemp x s).script = s.script := rfl
@[simp] theorem setTemp_draws (x : Temperature) : (setTemp x s).draws = s.draws := rfl

/-! ### setPat -/

@[simp] theorem setPat_sensorPort (w : Word) : (setPat w s).sensorPort = s.sensorPort := rfl
@[simp] theorem setPat_statusPort (w : Word) : (setPat w s).statusPort = s.statusPort := rfl
@[simp] theorem setPat_displayPort (w : Word) : (setPat w s).displayPort = s.displayPort := rfl
@[simp] theorem setPat_t (w : Word) : (setPat w s).t = s.t := rfl
@[simp] theorem setPat_pat (w : Word) : (setPat w s).pat = w := rfl
@[simp] theorem setPat_sf (w : Word) : (setPat w s).sf = s.sf := rfl
@[simp] theorem setPat_ef (w : Word) : (setPat w s).ef = s.ef := rfl
@[simp] theorem setPat_ret (w : Word) : (setPat w s).ret = s.ret := rfl
@[simp] theorem setPat_wtrace (w : Word) : (setPat w s).wtrace = s.wtrace := rfl
@[simp] theorem setPat_phase (w : Word) : (setPat w s).phase = s.phase := rfl
@[simp] theorem setPat_bus (w : Word) : (setPat w s).bus = s.bus := rfl
@[simp] theorem setPat_script (w : Word) : (setPat w s).script = s.script := rfl
@[simp] theorem setPat_draws (w : Word) : (setPat w s).draws = s.draws := rfl

/-! ### setSF -/

@[simp] theorem setSF_sensorPort (b : Bool) : (setSF b s).sensorPort = s.sensorPort := rfl
@[simp] theorem setSF_statusPort (b : Bool) : (setSF b s).statusPort = s.statusPort := rfl
@[simp] theorem setSF_displayPort (b : Bool) : (setSF b s).displayPort = s.displayPort := rfl
@[simp] theorem setSF_t (b : Bool) : (setSF b s).t = s.t := rfl
@[simp] theorem setSF_pat (b : Bool) : (setSF b s).pat = s.pat := rfl
@[simp] theorem setSF_sf (b : Bool) : (setSF b s).sf = b := rfl
@[simp] theorem setSF_ef (b : Bool) : (setSF b s).ef = s.ef := rfl
@[simp] theorem setSF_ret (b : Bool) : (setSF b s).ret = s.ret := rfl
@[simp] theorem setSF_wtrace (b : Bool) : (setSF b s).wtrace = s.wtrace := rfl
@[simp] theorem setSF_phase (b : Bool) : (setSF b s).phase = s.phase := rfl
@[simp] theorem setSF_bus (b : Bool) : (setSF b s).bus = s.bus := rfl
@[simp] theorem setSF_script (b : Bool) : (setSF b s).script = s.script := rfl
@[simp] theorem setSF_draws (b : Bool) : (setSF b s).draws = s.draws := rfl

/-! ### setEF -/

@[simp] theorem setEF_sensorPort (b : Bool) : (setEF b s).sensorPort = s.sensorPort := rfl
@[simp] theorem setEF_statusPort (b : Bool) : (setEF b s).statusPort = s.statusPort := rfl
@[simp] theorem setEF_displayPort (b : Bool) : (setEF b s).displayPort = s.displayPort := rfl
@[simp] theorem setEF_t (b : Bool) : (setEF b s).t = s.t := rfl
@[simp] theorem setEF_pat (b : Bool) : (setEF b s).pat = s.pat := rfl
@[simp] theorem setEF_sf (b : Bool) : (setEF b s).sf = s.sf := rfl
@[simp] theorem setEF_ef (b : Bool) : (setEF b s).ef = b := rfl
@[simp] theorem setEF_ret (b : Bool) : (setEF b s).ret = s.ret := rfl
@[simp] theorem setEF_wtrace (b : Bool) : (setEF b s).wtrace = s.wtrace := rfl
@[simp] theorem setEF_phase (b : Bool) : (setEF b s).phase = s.phase := rfl
@[simp] theorem setEF_bus (b : Bool) : (setEF b s).bus = s.bus := rfl
@[simp] theorem setEF_script (b : Bool) : (setEF b s).script = s.script := rfl
@[simp] theorem setEF_draws (b : Bool) : (setEF b s).draws = s.draws := rfl

/-! ### enterPhase -/

@[simp] theorem enterPhase_sensorPort (p : Phase) : (enterPhase p s).sensorPort = s.sensorPort := rfl
@[simp] theorem enterPhase_statusPort (p : Phase) : (enterPhase p s).statusPort = s.statusPort := rfl
@[simp] theorem enterPhase_displayPort (p : Phase) : (enterPhase p s).displayPort = s.displayPort := rfl
@[simp] theorem enterPhase_t (p : Phase) : (enterPhase p s).t = s.t := rfl
@[simp] theorem enterPhase_pat (p : Phase) : (enterPhase p s).pat = s.pat := rfl
@[simp] theorem enterPhase_sf (p : Phase) : (enterPhase p s).sf = s.sf := rfl
@[simp] theorem enterPhase_ef (p : Phase) : (enterPhase p s).ef = s.ef := rfl
@[simp] theorem enterPhase_ret (p : Phase) : (enterPhase p s).ret = s.ret := rfl
@[simp] theorem enterPhase_wtrace (p : Phase) : (enterPhase p s).wtrace = s.wtrace := rfl
@[simp] theorem enterPhase_phase (p : Phase) : (enterPhase p s).phase = p := rfl
@[simp] theorem enterPhase_bus (p : Phase) : (enterPhase p s).bus = s.bus := rfl
@[simp] theorem enterPhase_script (p : Phase) : (enterPhase p s).script = s.script := rfl
@[simp] theorem enterPhase_draws (p : Phase) : (enterPhase p s).draws = s.draws := rfl

/-! ### startOperation -/

@[simp] theorem startOperation_sensorPort : (startOperation s).sensorPort = s.sensorPort := rfl
@[simp] theorem startOperation_statusPort : (startOperation s).statusPort = s.statusPort := rfl
@[simp] theorem startOperation_displayPort : (startOperation s).displayPort = s.displayPort := rfl
@[simp] theorem startOperation_t : (startOperation s).t = s.t := rfl
@[simp] theorem startOperation_pat : (startOperation s).pat = s.pat := rfl
@[simp] theorem startOperation_sf : (startOperation s).sf = s.sf := rfl
@[simp] theorem startOperation_ef : (startOperation s).ef = s.ef := rfl
@[simp] theorem startOperation_ret : (startOperation s).ret = s.ret := rfl
@[simp] theorem startOperation_wtrace : (startOperation s).wtrace = [] := rfl
@[simp] theorem startOperation_phase : (startOperation s).phase = s.phase := rfl
@[simp] theorem startOperation_bus : (startOperation s).bus = [] := rfl
@[simp] theorem startOperation_script : (startOperation s).script = s.script := rfl
@[simp] theorem startOperation_draws : (startOperation s).draws = s.draws := rfl

/-! ### returnStatus -/

@[simp] theorem returnStatus_sensorPort (b : Bool) : (returnStatus b s).sensorPort = s.sensorPort := rfl
@[simp] theorem returnStatus_statusPort (b : Bool) : (returnStatus b s).statusPort = s.statusPort := rfl
@[simp] theorem returnStatus_displayPort (b : Bool) : (returnStatus b s).displayPort = s.displayPort := rfl
@[simp] theorem returnStatus_t (b : Bool) : (returnStatus b s).t = s.t := rfl
@[simp] theorem returnStatus_pat (b : Bool) : (returnStatus b s).pat = s.pat := rfl
@[simp] theorem returnStatus_sf (b : Bool) : (returnStatus b s).sf = s.sf := rfl
@[simp] theorem returnStatus_ef (b : Bool) : (returnStatus b s).ef = s.ef := rfl
@[simp] theorem returnStatus_ret (b : Bool) : (returnStatus b s).ret = statusCode b := rfl
@[simp] theorem returnStatus_wtrace (b : Bool) : (returnStatus b s).wtrace = s.wtrace := rfl
@[simp] theorem returnStatus_phase (b : Bool) : (returnStatus b s).phase = s.phase := rfl
@[simp] theorem returnStatus_bus (b : Bool) : (returnStatus b s).bus = s.bus := rfl
@[simp] theorem returnStatus_script (b : Bool) : (returnStatus b s).script = s.script := rfl
@[simp] theorem returnStatus_draws (b : Bool) : (returnStatus b s).draws = s.draws := rfl

/-! ### applyReset -/

@[simp] theorem applyReset_sensorPort : (applyReset s).sensorPort = s.sensorPort := rfl
@[simp] theorem applyReset_statusPort : (applyReset s).statusPort = s.statusPort := rfl
@[simp] theorem applyReset_displayPort : (applyReset s).displayPort = s.displayPort := rfl
@[simp] theorem applyReset_t : (applyReset s).t = { mag := Config.freeMag s.draws, unit := Config.freeUnit s.draws } := rfl
@[simp] theorem applyReset_pat : (applyReset s).pat = Config.freePat s.draws := rfl
@[simp] theorem applyReset_sf : (applyReset s).sf = false := rfl
@[simp] theorem applyReset_ef : (applyReset s).ef = false := rfl
@[simp] theorem applyReset_ret : (applyReset s).ret = Config.freeRet s.draws := rfl
@[simp] theorem applyReset_wtrace : (applyReset s).wtrace = [] := rfl
@[simp] theorem applyReset_phase : (applyReset s).phase = .idle := rfl
@[simp] theorem applyReset_bus : (applyReset s).bus = [] := rfl
@[simp] theorem applyReset_script : (applyReset s).script = s.script := rfl
@[simp] theorem applyReset_draws : (applyReset s).draws = s.draws + 1 := rfl

/-! ### setSensorPort -/

@[simp] theorem setSensorPort_sensorPort (w : Word) : (setSensorPort w s).sensorPort = w := rfl
@[simp] theorem setSensorPort_statusPort (w : Word) : (setSensorPort w s).statusPort = s.statusPort := rfl
@[simp] theorem setSensorPort_displayPort (w : Word) : (setSensorPort w s).displayPort = s.displayPort := rfl
@[simp] theorem setSensorPort_t (w : Word) : (setSensorPort w s).t = s.t := rfl
@[simp] theorem setSensorPort_pat (w : Word) : (setSensorPort w s).pat = s.pat := rfl
@[simp] theorem setSensorPort_sf (w : Word) : (setSensorPort w s).sf = s.sf := rfl
@[simp] theorem setSensorPort_ef (w : Word) : (setSensorPort w s).ef = s.ef := rfl
@[simp] theorem setSensorPort_ret (w : Word) : (setSensorPort w s).ret = s.ret := rfl
@[simp] theorem setSensorPort_wtrace (w : Word) : (setSensorPort w s).wtrace = s.wtrace := rfl
@[simp] theorem setSensorPort_phase (w : Word) : (setSensorPort w s).phase = s.phase := rfl
@[simp] theorem setSensorPort_bus (w : Word) : (setSensorPort w s).bus = s.bus := rfl
@[simp] theorem setSensorPort_script (w : Word) : (setSensorPort w s).script = s.script := rfl
@[simp] theorem setSensorPort_draws (w : Word) : (setSensorPort w s).draws = s.draws := rfl

/-! ### setStatusPort -/

@[simp] theorem setStatusPort_sensorPort (w : Word) : (setStatusPort w s).sensorPort = s.sensorPort := rfl
@[simp] theorem setStatusPort_statusPort (w : Word) : (setStatusPort w s).statusPort = w := rfl
@[simp] theorem setStatusPort_displayPort (w : Word) : (setStatusPort w s).displayPort = s.displayPort := rfl
@[simp] theorem setStatusPort_t (w : Word) : (setStatusPort w s).t = s.t := rfl
@[simp] theorem setStatusPort_pat (w : Word) : (setStatusPort w s).pat = s.pat := rfl
@[simp] theorem setStatusPort_sf (w : Word) : (setStatusPort w s).sf = s.sf := rfl
@[simp] theorem setStatusPort_ef (w : Word) : (setStatusPort w s).ef = s.ef := rfl
@[simp] theorem setStatusPort_ret (w : Word) : (setStatusPort w s).ret = s.ret := rfl
@[simp] theorem setStatusPort_wtrace (w : Word) : (setStatusPort w s).wtrace = s.wtrace := rfl
@[simp] theorem setStatusPort_phase (w : Word) : (setStatusPort w s).phase = s.phase := rfl
@[simp] theorem setStatusPort_bus (w : Word) : (setStatusPort w s).bus = s.bus := rfl
@[simp] theorem setStatusPort_script (w : Word) : (setStatusPort w s).script = s.script := rfl
@[simp] theorem setStatusPort_draws (w : Word) : (setStatusPort w s).draws = s.draws := rfl

/-! ### setDisplayPort -/

@[simp] theorem setDisplayPort_sensorPort (w : Word) : (setDisplayPort w s).sensorPort = s.sensorPort := rfl
@[simp] theorem setDisplayPort_statusPort (w : Word) : (setDisplayPort w s).statusPort = s.statusPort := rfl
@[simp] theorem setDisplayPort_displayPort (w : Word) : (setDisplayPort w s).displayPort = w := rfl
@[simp] theorem setDisplayPort_t (w : Word) : (setDisplayPort w s).t = s.t := rfl
@[simp] theorem setDisplayPort_pat (w : Word) : (setDisplayPort w s).pat = s.pat := rfl
@[simp] theorem setDisplayPort_sf (w : Word) : (setDisplayPort w s).sf = s.sf := rfl
@[simp] theorem setDisplayPort_ef (w : Word) : (setDisplayPort w s).ef = s.ef := rfl
@[simp] theorem setDisplayPort_ret (w : Word) : (setDisplayPort w s).ret = s.ret := rfl
@[simp] theorem setDisplayPort_wtrace (w : Word) : (setDisplayPort w s).wtrace = s.wtrace := rfl
@[simp] theorem setDisplayPort_phase (w : Word) : (setDisplayPort w s).phase = s.phase := rfl
@[simp] theorem setDisplayPort_bus (w : Word) : (setDisplayPort w s).bus = s.bus := rfl
@[simp] theorem setDisplayPort_script (w : Word) : (setDisplayPort w s).script = s.script := rfl
@[simp] theorem setDisplayPort_draws (w : Word) : (setDisplayPort w s).draws = s.draws := rfl

/-! ### setScript -/

@[simp] theorem setScript_sensorPort (l : List EnvAction) : (setScript l s).sensorPort = s.sensorPort := rfl
@[simp] theorem setScript_statusPort (l : List EnvAction) : (setScript l s).statusPort = s.statusPort := rfl
@[simp] theorem setScript_displayPort (l : List EnvAction) : (setScript l s).displayPort = s.displayPort := rfl
@[simp] theorem setScript_t (l : List EnvAction) : (setScript l s).t = s.t := rfl
@[simp] theorem setScript_pat (l : List EnvAction) : (setScript l s).pat = s.pat := rfl
@[simp] theorem setScript_sf (l : List EnvAction) : (setScript l s).sf = s.sf := rfl
@[simp] theorem setScript_ef (l : List EnvAction) : (setScript l s).ef = s.ef := rfl
@[simp] theorem setScript_ret (l : List EnvAction) : (setScript l s).ret = s.ret := rfl
@[simp] theorem setScript_wtrace (l : List EnvAction) : (setScript l s).wtrace = s.wtrace := rfl
@[simp] theorem setScript_phase (l : List EnvAction) : (setScript l s).phase = s.phase := rfl
@[simp] theorem setScript_bus (l : List EnvAction) : (setScript l s).bus = s.bus := rfl
@[simp] theorem setScript_script (l : List EnvAction) : (setScript l s).script = l := rfl
@[simp] theorem setScript_draws (l : List EnvAction) : (setScript l s).draws = s.draws := rfl

end Sys2Proof.Machine
end

