-- ==== Sys2Proof/Laws/Ops.lean ====
section
/-!
SUPPORT. What each shared operation does, said once as the whole state it leaves: faults, returns, the two stages and the
parts of the cycle. Later proofs cite these and do not unfold the operations.
-/

namespace Sys2Proof.Machine

variable (s : State)

/-! ### Faults and returns -/

theorem raise_sensorFault_state :
    raise .sensorFault s = { s with sf := true, t := { mag := 0#16, unit := .error } } := rfl

theorem raise_encodingRangeFault_state :
    raise .encodingRangeFault s = { s with ef := true, pat := errPattern } := rfl

theorem finish_state (b : Bool) : finish b s = { s with phase := .idle, ret := statusCode b } := rfl

/-! ### The sensor stage -/

/-- A reading that is not trusted: the sentinel Temperature and `SF`. -/
theorem sensorStage_of_faulty (h : SensorFaulty (rawReading s.sensorPort) s.statusPort) :
    sensorStage s = { s with
      phase := .sRead, sf := true, t := { mag := 0#16, unit := .error },
      bus := s.bus ++ [.read .sensor s.sensorPort] ++ [.read .status s.statusPort] } := by
  show convertReading s.sensorPort s.statusPort _ = _
  rw [convertReading, if_pos h]
  rfl

/-- A trusted reading: the converted Temperature, `SF` clear. -/
theorem sensorStage_of_trusted (h : ¬ SensorFaulty (rawReading s.sensorPort) s.statusPort) :
    sensorStage s = { s with
      phase := .sRead, sf := false, t := selectUnit (celsiusOf (rawReading s.sensorPort)) s.statusPort,
      bus := s.bus ++ [.read .sensor s.sensorPort] ++ [.read .status s.statusPort] } := by
  show convertReading s.sensorPort s.statusPort _ = _
  rw [convertReading, if_neg h]
  rfl

/-! ### The encoder stage -/

/-- A rejected Temperature: the error pattern and `EF`. -/
theorem encodeStage_of_rejected (h : Rejected s.t) :
    encodeStage s = { s with phase := .sEnc, ef := true, pat := errPattern } := by
  show encodeTemperature _ = _
  rw [encodeTemperature, if_pos (by exact h)]
  rfl

/-- An accepted Temperature: its pattern, `EF` clear. -/
theorem encodeStage_of_accepted (h : ¬ Rejected s.t) :
    encodeStage s = { s with phase := .sEnc, ef := false, pat := patternOf s.t } := by
  show encodeTemperature _ = _
  rw [encodeTemperature, if_neg (by exact h)]
  rfl

/-! ### The parts of the cycle -/

theorem reportSensor_of_failed (h : s.sf = true) : reportSensor s = memWrite errPattern s := by
  simp [reportSensor, h]

theorem reportSensor_of_ok (h : s.sf = false) : reportSensor s = s := by
  simp [reportSensor, h]

theorem reportEncoder_of_failed (h : s.ef = true) : reportEncoder s = memWrite errPattern s := by
  simp [reportEncoder, h]

theorem reportEncoder_of_ok (h : s.ef = false) : reportEncoder s = s := by
  simp [reportEncoder, h]

theorem commit_of_failed (h : (s.sf || s.ef) = true) : commit s = enterPhase .sCommit s := by
  simp only [commit, h, if_true]

theorem commit_of_ok (h : (s.sf || s.ef) = false) :
    commit s = memWrite s.pat (enterPhase .sCommit s) := by
  simp [commit, h]

/-! ### Invocation -/

theorem canInvoke_iff : canInvoke s = true ↔ s.phase = .idle := by
  simp [canInvoke]

theorem nextAction_nil (h : s.script = []) : nextAction s = none := by
  simp [nextAction, h]

theorem nextAction_cons {a : EnvAction} {rest : List EnvAction} (h : s.script = a :: rest) :
    nextAction s = some (a, setScript rest s) := by
  simp [nextAction, h]

end Sys2Proof.Machine
end

