-- ==== Sys2Proof/Laws/Pattern.lean ====
section
/-!
SUPPORT. The fields of a composed pattern are the glyphs it was composed from (42_formatter_update.md R131): the fields
do not overlap.
-/

namespace Sys2Proof

open Machine

variable (u : TempUnit) (h t o f : Glyph)

/-- Bits of the two unit indicators (R130). -/
theorem unitBits_getElem (i : Nat) (hi : i < 32) :
    (unitBits u)[i] = ((decide (u = .fahrenheit) && decide (i = 29)) || (decide (u = .celsius) && decide (i = 28))) := by
  cases u <;> interval_cases i <;> simp [unitBits]

theorem fieldF_compose : fieldF (compose u h t o f) = f := by
  apply BitVec.eq_of_getLsbD_eq
  intro i hi
  interval_cases i <;> simp [fieldF, compose, unitBits_getElem]

theorem fieldO_compose : fieldO (compose u h t o f) = o := by
  apply BitVec.eq_of_getLsbD_eq
  intro i hi
  interval_cases i <;> simp [fieldO, compose, unitBits_getElem]

theorem fieldT_compose : fieldT (compose u h t o f) = t := by
  apply BitVec.eq_of_getLsbD_eq
  intro i hi
  interval_cases i <;> simp [fieldT, compose, unitBits_getElem]

theorem fieldH_compose : fieldH (compose u h t o f) = h := by
  apply BitVec.eq_of_getLsbD_eq
  intro i hi
  interval_cases i <;> simp [fieldH, compose, unitBits_getElem]

theorem compose_bit31 : (compose u h t o f).getLsbD 31 = true := by
  simp [compose, unitBits_getElem]

theorem compose_bit30 : (compose u h t o f).getLsbD 30 = false := by
  simp [compose, unitBits_getElem]

theorem compose_bit29 : (compose u h t o f).getLsbD 29 = decide (u = .fahrenheit) := by
  simp [compose, unitBits_getElem]

theorem compose_bit28 : (compose u h t o f).getLsbD 28 = decide (u = .celsius) := by
  simp [compose, unitBits_getElem]

/-- A bit of a word as a digit of its number. -/
theorem getLsbD_toNat_digit (w : Word) (i : Nat) : (w.getLsbD i).toNat = w.toNat / 2 ^ i % 2 :=
  Nat.toNat_testBit w.toNat i

/-- A composed pattern as a number: the fields do not overlap, so OR is addition (R131). -/
theorem compose_toNat :
    (compose u h t o f).toNat
      = 2 ^ 31 + (if u = .fahrenheit then 2 ^ 29 else 0) + (if u = .celsius then 2 ^ 28 else 0)
        + h.toNat * 2 ^ 21 + t.toNat * 2 ^ 14 + o.toNat * 2 ^ 7 + f.toNat := by
  have b (i : Nat) := getLsbD_toNat_digit (compose u h t o f) i
  have b31 := b 31
  have b30 := b 30
  have b29 := b 29
  have b28 := b 28
  rw [compose_bit31] at b31
  rw [compose_bit30] at b30
  rw [compose_bit29] at b29
  rw [compose_bit28] at b28
  have fH := congrArg BitVec.toNat (fieldH_compose u h t o f)
  have fT := congrArg BitVec.toNat (fieldT_compose u h t o f)
  have fO := congrArg BitVec.toNat (fieldO_compose u h t o f)
  have fF := congrArg BitVec.toNat (fieldF_compose u h t o f)
  have hw := (compose u h t o f).isLt
  simp only [fieldH, fieldT, fieldO, fieldF, BitVec.extractLsb'_toNat, Nat.shiftRight_eq_div_pow] at fH fT fO fF
  cases u <;> simp at b29 b28 b30 b31 ⊢ <;> omega

end Sys2Proof
end

