-- ==== Sys2Proof/Laws/PerInstr.lean ====
section
/-!
SUPPORT. A statement about each operation as syntax: its command word matches its row of spec/opcode_table.json.
-/

namespace Sys2Proof.Laws

/-- The `match` column of an operation's row (30_encoding.md R62). -/
def tableMatch : Instr → Cmd
  | .nop => 0x00000#20
  | .rdtemp => 0x40000#20
  | .encode _ => 0x80000#20
  | .update => 0xC0000#20

/-- `CMD & mask = match` for the word the encoder gives (R62). -/
def TableMatch.Statement (i : Instr) : Prop := encodeCmd i &&& 0xC0000#20 = tableMatch i

theorem TableMatch.nop : TableMatch.Statement .nop := by
  unfold TableMatch.Statement
  decide

theorem TableMatch.rdtemp : TableMatch.Statement .rdtemp := by
  unfold TableMatch.Statement
  decide

theorem TableMatch.encode (temp : Temperature) : TableMatch.Statement (.encode temp) := by
  unfold TableMatch.Statement
  apply BitVec.eq_of_getLsbD_eq
  intro i hi
  have hmask : (0xC0000#20).getLsbD i = (decide (i = 18) || decide (i = 19)) := by
    interval_cases i <;> decide
  have hmatch : (0x80000#20).getLsbD i = decide (i = 19) := by
    interval_cases i <;> decide
  rw [BitVec.getLsbD_and, hmask, tableMatch, hmatch, encodeCmd, BitVec.getLsbD_append]
  by_cases h : i < 18
  · have : i ≠ 18 ∧ i ≠ 19 := by omega
    simp [h, this]
  · have : i = 18 ∨ i = 19 := by omega
    rcases this with rfl | rfl <;> simp [Instr.op]

theorem TableMatch.update : TableMatch.Statement .update := by
  unfold TableMatch.Statement
  decide

end Sys2Proof.Laws
end

