-- ==== Sys2Proof/Laws/Runs.lean ====
section
/-!
SUPPORT. Runs of the machine, one step at a time.
-/

namespace Sys2Proof

open Machine

/-- A run of one step more is the step and then the run, on any machine. -/
theorem run_succ_of_next (M : Host.Core) (k : Nat) (s t : M.State) (h : M.step s = .next t) :
    M.run (k + 1) s = M.run k t := by
  simp only [Host.Core.run, h]

/-- The same for this machine, in the model's own names. -/
theorem core_run_succ (k : Nat) (s t : State) (h : step s = .next t) : core.run (k + 1) s = core.run k t :=
  run_succ_of_next core k s t h

theorem core_run_zero (s : State) : core.run 0 s = .next s := rfl

end Sys2Proof
end

