-- ==== Sys2Proof/Tests/Slice0.lean ====
section
/-!
SUPPORT. Tests: command words written out from the spec, one or two vectors of 95_test_vectors.md per operation, and a
witness for the hypotheses of every statement that has some. Expected values are the spec's.
-/

namespace Sys2Proof.Tests

open Machine

/-! ### Well-formedness -/

theorem test_wf_encode_line : (HostLine.encode (-32768) .celsius).wellFormed = true := by decide
theorem test_ill_encode_line : (HostLine.encode 32768 .celsius).wellFormed = false := by decide
theorem test_ill_encode_line_low : (HostLine.encode (-32769) .celsius).wellFormed = false := by decide
theorem test_ill_sensor_line : (HostLine.setSensor (-2147483649)).wellFormed = false := by decide
theorem test_ill_status_line : (HostLine.setStatus 4294967296).wellFormed = false := by decide
theorem test_wf_status_line : (HostLine.setStatus 0xFFFFFFFF).wellFormed = true := by decide

/-! ### Decoding: words written out bit by bit from 30_encoding.md R60, R62, R64 (`OP`, `UNIT`, `MAG`) -/

theorem test_decode_nop : decode 0b00_00_0000000000000000#20 = .nop := by decide
theorem test_decode_nop_ignored_bits : decode 0b00_11_1111111111111111#20 = .nop := by decide
theorem test_decode_rdtemp : decode 0b01_00_0000000000000000#20 = .rdtemp := by decide
theorem test_decode_encode :
    decode 0b10_10_1111111000010110#20 = .encode { mag := BitVec.ofInt 16 (-490), unit := .fahrenheit } := by decide
theorem test_decode_encode_celsius :
    decode 0b10_01_0000000111000011#20 = .encode { mag := 451#16, unit := .celsius } := by decide
theorem test_decode_encode_error : decode 0b10_11_0000000000000111#20 = .encode { mag := 7#16, unit := .error } := by decide
theorem test_decode_encode_unrecognised :
    decode 0b10_00_0000000011100001#20 = .encode { mag := 225#16, unit := .unrecognised } := by decide
theorem test_decode_update : decode 0b11_00_0000000000000000#20 = .update := by decide
theorem test_decode_update_ignored_bits : decode 0b11_11_1111111111111111#20 = .update := by decide
theorem test_decode_table_word : decodeTableWord 24 0xC0000 = some .update := by decide
theorem test_decode_rejects_wide_word : decodeNat 0x100000 = .error .widerThanCommandWord := by rfl
theorem test_encode_word : encodeCmd (.encode { mag := BitVec.ofInt 16 (-490), unit := .fahrenheit }) = 0xAFE16#20 := by
  decide
/-- 30_encoding.md R76: each port line acts on its own port; an unsigned and a signed spelling of one word. -/
theorem test_assemble_port_lines :
    assemble (.setStatus 0xFFFFFFFF) = .setStatus 0xFFFFFFFF#32 ∧ assemble (.setSensor (-1)) = .setSensor 0xFFFFFFFF#32 := by
  decide
theorem test_assemble_line : assemble (.encode (-491) .fahrenheit) = .invoke 0xAFE15#20 := by decide

/-! ### One step of each operation -/

/-- A state with these port contents and arbitrary-looking other values. -/
def start (v : Int) (status : Word) : State where
  sensorPort := BitVec.ofInt 32 v
  statusPort := status
  displayPort := 0xDEADBEEF#32
  t := { mag := 7#16, unit := .error }
  pat := 5#32
  sf := true
  ef := true
  ret := 1#1
  wtrace := [1#32]
  phase := .idle
  bus := [.write 1#32]
  script := []
  draws := 3

/-- The state an outcome goes to, if it does. -/
def after : Host.Outcome State Fault Refusal → Option State
  | .next t => some t
  | .fault _ => none
  | .refused _ => none

/-- 95 section 2.2: 16 with status 0x20 gives -488 Fahrenheit (floor division would give -489). -/
theorem test_rdtemp_truncates :
    (after (exec .rdtemp (start 16 0x20#32))).map (fun t => (t.t.mag.toInt, t.t.unit, t.sf, t.ret))
      = some (-488, .fahrenheit, false, 0#1) := by decide
/-- 95 section 2.3: 65536 is compared at full width. -/
theorem test_rdtemp_full_width :
    (after (exec .rdtemp (start 65536 0#32))).map (fun t => (t.t.mag.toInt, t.t.unit, t.sf, t.ret))
      = some (0, .error, true, 1#1) := by decide
/-- 95 section 3.1: `-99 C`. -/
theorem test_encode_tens_minus :
    (after (exec (.encode { mag := BitVec.ofInt 16 (-99), unit := .celsius }) (start 0 0#32))).map
      (fun t => (t.pat, t.ef, t.ret, t.displayPort)) = some (0x900137EF#32, false, 0#1, 0xDEADBEEF#32) := by decide
/-- 95 section 3.1: `1005 F`. -/
theorem test_encode_leading_zero :
    (after (exec (.encode { mag := 1005#16, unit := .fahrenheit }) (start 0 0#32))).map (·.pat)
      = some 0xA91EFDE7#32 := by decide
/-- 95 Part 4: the source's scenario 2. -/
theorem test_update_scenario_two :
    (after (exec .update (start 0 0x20#32))).map (fun t => (t.displayPort, t.wtrace, t.ret))
      = some (0xA093B7FB#32, [0xA093B7FB#32], 0#1) := by decide
/-- 95 Part 4: the hardware-fault bit wins over the Fahrenheit request. -/
theorem test_update_fault :
    (after (exec .update (start 14400 0x24#32))).map (fun t => (t.displayPort, t.wtrace, t.ret))
      = some (0x06F7EF80#32, [0x06F7EF80#32, 0x06F7EF80#32], 1#1) := by decide
/-- 95 Part 5. -/
theorem test_nop :
    (after (exec .nop (start 0 0#32))).map (fun t => (t.wtrace, t.ret, t.displayPort, t.pat))
      = some ([], 0#1, 0xDEADBEEF#32, 5#32) := by decide
/-- 70 R177. -/
theorem test_busy_refused :
    (match step { start 0 0#32 with phase := .sEnc, script := [.invoke 0xC0000#20] } with
     | .refused .invokedWhileBusy => true
     | _ => false) = true := by decide
/-- A table word placed after reset runs at the very next step. -/
theorem test_first_step_after_reset :
    (match step (State.reset.withFetchWord 24 0xC0000) with
     | .next _ => true
     | _ => false) = true := by decide

/-! ### Witnesses: for each statement with hypotheses, states and operands that meet them -/

theorem wit_EncodeOperandIsReadFromTheWord :
    0x80000#20 &&& 0xC0000#20 = 0x80000#20 ∧ 0xBFFFF#20 &&& 0xC0000#20 = 0x80000#20
    ∧ (0x87FFF#20 : Cmd).toNat % 65536 < 32768 ∧ ¬ (0x88000#20 : Cmd).toNat % 65536 < 32768 := by decide
theorem wit_OperandBitsIgnoredOutsideEncode :
    0x3FFFF#20 &&& 0xC0000#20 = 0x00000#20 &&& 0xC0000#20 ∧ 0x3FFFF#20 &&& 0xC0000#20 ≠ 0x80000#20
    ∧ 0xFFFFF#20 &&& 0xC0000#20 = 0xC0000#20 &&& 0xC0000#20 ∧ 0xFFFFF#20 &&& 0xC0000#20 ≠ 0x80000#20 := by decide
theorem wit_ScriptLinesAssembleToTheirWords :
    (-32768 : Int) ≤ -32768 ∧ (-32768 : Int) ≤ 32767 ∧ (-32768 : Int) ≤ 32767 ∧ (32767 : Int) ≤ 32767
    ∧ (-2147483648 : Int) ≤ -2147483648 ∧ (-2147483648 : Int) < 2147483648 ∧ (2147483647 : Int) < 2147483648
    ∧ (-2147483648 : Int) ≤ 2147483648 ∧ (-2147483648 : Int) ≤ 4294967295 ∧ (4294967295 : Int) < 4294967296 := by decide
theorem wit_StepRunsTheInvokedOperation :
    { start 0 0#32 with script := [.invoke 0xC0000#20] }.script = .invoke 0xC0000#20 :: []
    ∧ { start 0 0#32 with script := [.invoke 0xC0000#20] }.phase = .idle := by decide
theorem wit_PlacedCommandWordRunsNext : (0 : Nat) < 2 ^ 20 ∧ 0xFFFFF < 2 ^ 20 := by decide
theorem wit_InvocationOnlyWhenIdle_idle :
    { start 0 0#32 with script := [.invoke 0#20] }.script = .invoke 0#20 :: [] ∧ (start 0 0#32).phase = .idle := by decide
theorem wit_InvocationOnlyWhenIdle_busy :
    { start 0 0#32 with script := [.invoke 0#20], phase := .sRead }.script = .invoke 0#20 :: []
    ∧ { start 0 0#32 with script := [.invoke 0#20], phase := .sRead }.phase ≠ .idle := by decide
theorem wit_EnvironmentActionsChangeOnlyTheirPort :
    { start 0 0#32 with script := [.setSensor 9#32] }.script = .setSensor 9#32 :: []
    ∧ { start 0 0#32 with script := [.setStatus 9#32] }.script = .setStatus 9#32 :: []
    ∧ { start 0 0#32 with script := [.setDisplay 9#32] }.script = .setDisplay 9#32 :: []
    ∧ (start 0 0#32).script = [] := by decide
theorem wit_ResetClearsSequencerAndFlags :
    { start 0 0#32 with script := [.reset] }.script = .reset :: [] := by decide

theorem wit_trusted_low : Trusted (start 0 0#32).sensorPort (start 0 0#32).statusPort :=
  ⟨by decide, by decide, by decide⟩
theorem wit_trusted_high : Trusted (start 28800 0xFFFFFFDB#32).sensorPort (start 28800 0xFFFFFFDB#32).statusPort :=
  ⟨by decide, by decide, by decide⟩
theorem wit_trusted_fahrenheit : Trusted (start 28800 0x20#32).sensorPort (start 28800 0x20#32).statusPort :=
  ⟨by decide, by decide, by decide⟩
theorem wit_CelsiusIsTheNearestTenth :
    Trusted (start 16 0#32).sensorPort (start 16 0#32).statusPort ∧ (start 16 0#32).statusPort.getLsbD 5 = false :=
  ⟨⟨by decide, by decide, by decide⟩, by decide⟩
theorem wit_CelsiusFromTheBitsOfThePort :
    Trusted (start 28799 0#32).sensorPort (start 28799 0#32).statusPort
    ∧ (start 28799 0#32).statusPort.getLsbD 5 = false :=
  ⟨⟨by decide, by decide, by decide⟩, by decide⟩
theorem wit_ConversionIsMonotone :
    Trusted (start 15 0x20#32).sensorPort (start 15 0x20#32).statusPort
    ∧ Trusted (start 16 0x20#32).sensorPort (start 16 0x20#32).statusPort
    ∧ (start 15 0x20#32).statusPort.getLsbD 5 = (start 16 0x20#32).statusPort.getLsbD 5
    ∧ (start 15 0x20#32).sensorPort.toInt ≤ (start 16 0x20#32).sensorPort.toInt :=
  ⟨⟨by decide, by decide, by decide⟩, ⟨by decide, by decide, by decide⟩, by decide, by decide⟩
/-- Readings at the meeting points of the clauses: 15 and 16, 28783 and 28784, with the values at the ends of -449..449. -/
theorem wit_ReadingsOfEachCelsiusValue :
    Trusted (start 15 0#32).sensorPort (start 15 0#32).statusPort
    ∧ Trusted (start 28784 0#32).sensorPort (start 28784 0#32).statusPort
    ∧ (start 15 0#32).statusPort.getLsbD 5 = false ∧ (-449 : Int) ≤ -449 ∧ (-449 : Int) ≤ 449 ∧ (449 : Int) ≤ 449
    ∧ 32 * (-449 + 450) - 16 = (16 : Int) ∧ 32 * (449 + 450) + 15 = (28783 : Int) :=
  ⟨⟨by decide, by decide, by decide⟩, ⟨by decide, by decide, by decide⟩, by decide, by decide, by decide, by decide, by decide, by decide⟩
theorem wit_FahrenheitKeepsCelsiusApart :
    (-450 : Int) ≤ -450 ∧ (-450 : Int) ≤ 450 ∧ (-450 : Int) ≤ 450 ∧ (450 : Int) ≤ 450
    ∧ fahrenheitOf (-450) = -490 ∧ fahrenheitOf 450 = 1130 ∧ fahrenheitOf (-1) = 319 := by decide
/-- 1 is a status of a faulted reading, 0 of a trusted one: both premises of the range law are met. -/
theorem wit_RdtempAnswersInRange :
    (after (exec .rdtemp (start 28800 0x20#32))).map (·.ret) = some 0#1
    ∧ (after (exec .rdtemp (start 28801 0x20#32))).map (·.ret) = some 1#1 := by decide
theorem wit_DigitsRecomposeTheMagnitude :
    (-490 : Int) ≤ -490 ∧ (-490 : Int) ≤ 1130 ∧ (1130 : Int) ≤ 1130 ∧ (-490 : Int) < 0 := by decide

/-- Displayable magnitudes at both ends of every class of the placement table. -/
theorem wit_PlacementByMagnitude :
    Displayable { mag := 1130#16, unit := .fahrenheit } ∧ Displayable { mag := 1000#16, unit := .fahrenheit }
    ∧ Displayable { mag := 999#16, unit := .fahrenheit } ∧ Displayable { mag := BitVec.ofInt 16 (-100), unit := .celsius }
    ∧ Displayable { mag := 99#16, unit := .celsius } ∧ Displayable { mag := BitVec.ofInt 16 (-10), unit := .celsius }
    ∧ Displayable { mag := 9#16, unit := .celsius } ∧ Displayable { mag := 1#16, unit := .celsius }
    ∧ Displayable { mag := 0#16, unit := .celsius } ∧ Displayable { mag := BitVec.ofInt 16 (-490), unit := .fahrenheit } :=
  ⟨.inr ⟨rfl, by decide, by decide⟩, .inr ⟨rfl, by decide, by decide⟩, .inr ⟨rfl, by decide, by decide⟩,
   .inl ⟨rfl, by decide, by decide⟩, .inl ⟨rfl, by decide, by decide⟩, .inl ⟨rfl, by decide, by decide⟩,
   .inl ⟨rfl, by decide, by decide⟩, .inl ⟨rfl, by decide, by decide⟩, .inl ⟨rfl, by decide, by decide⟩,
   .inr ⟨rfl, by decide, by decide⟩⟩
theorem wit_MinusAppearsInAtMostOneField :
    Displayable { mag := BitVec.ofInt 16 (-450), unit := .celsius } ∧ Displayable { mag := 9#16, unit := .celsius }
    ∧ Displayable { mag := 1#16, unit := .celsius } ∧ Displayable { mag := 10#16, unit := .celsius }
    ∧ (1 : Int) ≤ (1#16 : Mag).toInt ∧ (9#16 : Mag).toInt ≤ (9 : Int) :=
  ⟨.inl ⟨rfl, by decide, by decide⟩, .inl ⟨rfl, by decide, by decide⟩, .inl ⟨rfl, by decide, by decide⟩,
   .inl ⟨rfl, by decide, by decide⟩, by decide, by decide⟩
theorem wit_PatternsCoincideOnlyNearZero :
    Displayable { mag := 5#16, unit := .celsius } ∧ Displayable { mag := BitVec.ofInt 16 (-5), unit := .celsius }
    ∧ patternOf { mag := 5#16, unit := .celsius } = patternOf { mag := BitVec.ofInt 16 (-5), unit := .celsius }
    ∧ patternOf { mag := 10#16, unit := .celsius } ≠ patternOf { mag := BitVec.ofInt 16 (-10), unit := .celsius } :=
  ⟨.inl ⟨rfl, by decide, by decide⟩, .inl ⟨rfl, by decide, by decide⟩, by decide, by decide⟩
theorem wit_EncodeProducesErrOrComposed :
    (after (exec (.encode { mag := 450#16, unit := .celsius }) (start 0 0#32))).map (·.ret) = some 0#1
    ∧ (after (exec (.encode { mag := 451#16, unit := .celsius }) (start 0 0#32))).map (·.ret) = some 1#1 := by decide
theorem wit_PolicyMattersOnlyFromZeroToNinetyNine :
    Displayable { mag := BitVec.ofInt 16 (-1), unit := .celsius } ∧ (BitVec.ofInt 16 (-1)).toInt < 0
    ∧ Displayable { mag := 100#16, unit := .celsius } ∧ 99 < (100#16 : Mag).toInt :=
  ⟨.inl ⟨rfl, by decide, by decide⟩, by decide, .inl ⟨rfl, by decide, by decide⟩, by decide⟩
theorem wit_UpdateOutcomeFromThePorts :
    Trusted (start 28800 0#32).sensorPort (start 28800 0#32).statusPort
    ∧ ¬ Trusted (start 28801 0#32).sensorPort (start 28801 0#32).statusPort
    ∧ ¬ Trusted (start (-1) 0#32).sensorPort (start (-1) 0#32).statusPort
    ∧ ¬ Trusted (start 0 4#32).sensorPort (start 0 4#32).statusPort :=
  ⟨⟨by decide, by decide, by decide⟩, fun h => absurd h.2.1 (by decide), fun h => absurd h.1 (by decide),
   fun h => absurd h.2.2 (by decide)⟩
/-- Stages that only set their flags meet the hypotheses, and reach each row: the trace of the two rows the real stages
cannot reach is one `ERR`. -/
theorem wit_CycleWritesByTheTwoFlags (a b : Bool) :
    (∀ x, (setSF a x).wtrace = x.wtrace)
    ∧ (∀ x, (setEF b x).wtrace = x.wtrace ∧ (setEF b x).displayPort = x.displayPort ∧ (setEF b x).sf = x.sf) :=
  ⟨fun _ => rfl, fun _ => ⟨rfl, rfl, rfl⟩⟩
theorem wit_CycleWritesByTheTwoFlags_rows :
    (cycle (setSF false) (setEF false) (start 0 0#32)).wtrace = [5#32]
    ∧ (cycle (setSF true) (setEF true) (start 0 0#32)).wtrace = [0x06F7EF80#32, 0x06F7EF80#32]
    ∧ (cycle (setSF false) (setEF true) (start 0 0#32)).wtrace = [0x06F7EF80#32]
    ∧ (cycle (setSF true) (setEF false) (start 0 0#32)).wtrace = [0x06F7EF80#32] := by decide
theorem wit_ResultsDependOnInputPortsAlone :
    (start 100 0x20#32).sensorPort = { start 100 0x20#32 with displayPort := 0#32, pat := 0#32, sf := false }.sensorPort
    ∧ (start 100 0x20#32).statusPort = { start 100 0x20#32 with displayPort := 0#32, sf := false }.statusPort := by decide
theorem wit_OperationsLeaveTheRestUnchanged :
    (∃ t, exec .nop (start 0 0#32) = .next t) ∧ (∃ t, exec .rdtemp (start 0 0#32) = .next t)
    ∧ (∃ t, exec (.encode { mag := 0#16, unit := .error }) (start 0 0#32) = .next t)
    ∧ (∃ t, exec .update (start 0 0#32) = .next t) ∧ Instr.nop ≠ .update ∧ Instr.rdtemp ≠ .update :=
  ⟨⟨_, rfl⟩, ⟨_, rfl⟩, ⟨_, rfl⟩, ⟨_, rfl⟩, by decide, by decide⟩
theorem wit_OnlyUpdateWritesOnceOrTwice :
    (after (exec .update (start 0 0#32))).map (·.ret) = some 0#1
    ∧ (after (exec .update (start (-1) 0#32))).map (·.ret) = some 1#1 ∧ Instr.nop ≠ .update := by decide
theorem wit_PhaseSequenceOfEachOperation :
    (start 0 0#32).phase = .idle ∧ ∃ t, exec .update (start 0 0#32) = .next t := ⟨rfl, _, rfl⟩
theorem wit_DisplaySeenDuringACycle :
    (after (exec .update (start 14400 0#32))).map (·.ret) = some 0#1
    ∧ (after (exec .update (start 14400 4#32))).map (·.ret) = some 1#1 := by decide
theorem wit_NothingStopsButAnInvocationWhileBusy :
    step { start 0 0#32 with phase := .sEnc, script := [.invoke 0#20] } = .refused .invokedWhileBusy := rfl
/-- A state that no run from reset reaches without the environment, with a failed cycle's trace, meets the invariant. -/
theorem wit_Inv_after_failure :
    Inv { start 0 0#32 with wtrace := [errPattern, errPattern], bus := [.write errPattern, .write errPattern],
                            script := [.invoke 0xC0000#20] } :=
  ⟨rfl, rfl, .inr (.inr rfl)⟩
theorem wit_ScriptsRunToTheirEnd : AtRest { start 0 0#32 with script := [.setSensor 1#32, .reset, .invoke 0xC0000#20] } :=
  rfl
/-- A faulty reading in a script whose next readings are trusted. -/
theorem wit_CycleAfterAFaultRecovers :
    AtRest (start (-1) 4#32)
    ∧ { start (-1) 4#32 with
        script := [.invoke 0xC0000#20, .setSensor 28800#32, .setStatus 0x20#32, .invoke 0xC0000#20] }.script
      = [.invoke 0xC0000#20, .setSensor 28800#32, .setStatus 0x20#32, .invoke 0xC0000#20]
    ∧ Trusted 28800#32 0x20#32 ∧ Trusted 0#32 0#32 :=
  ⟨rfl, rfl, ⟨by decide, by decide, by decide⟩, ⟨by decide, by decide, by decide⟩⟩
theorem wit_SensorFaultCauseAndRecovery :
    Instr.rdtemp = .rdtemp ∧ (start 28801 0#32).sensorPort.toInt > 28800 ∧ (start (-1) 0#32).sensorPort.toInt < 0
    ∧ (start 0 4#32).statusPort.getLsbD 2 = true := by decide
theorem wit_EncodingRangeFaultCauseAndRecovery :
    (TempUnit.celsius = .celsius ∧ (451#16 : Mag).toInt > 450)
    ∧ (TempUnit.fahrenheit = .fahrenheit ∧ (BitVec.ofInt 16 (-491) : Mag).toInt < -490)
    ∧ TempUnit.unrecognised ≠ .celsius ∧ TempUnit.unrecognised ≠ .fahrenheit := by decide
theorem wit_StepKeepsTheDisplayDefined :
    DisplayDefined { start 0 0#32 with displayPort := errPattern, script := [.invoke 0xC0000#20] }.displayPort
    ∧ DisplayLeftAlone { start 0 0#32 with displayPort := errPattern, script := [.invoke 0xC0000#20] }
    ∧ ∃ t, step { start 0 0#32 with displayPort := errPattern, script := [.invoke 0xC0000#20] } = .next t :=
  ⟨.inr rfl, fun w rest h => by simp at h, _, rfl⟩

end Sys2Proof.Tests
end

/-!
PROOFS. The port accesses of the operations (20_memory.md R40, R47, R48): what each stage and each part of the cycle adds
to the access record and to `WTRACE`, and from these the accesses of whole operations.
-/

namespace Sys2Proof.Machine

variable (s : State)

/-! ### What the two stages can do -/

/-- Whatever the two words read are, the sensor stage moves `phase`, sets `SF` and `T`, and records its two reads, sensor
first (40_sensor_reader.md R86, 20_memory.md R47). -/
theorem sensorStage_shape : ∃ sf temp, sensorStage s = { s with
    phase := .sRead, sf := sf, t := temp,
    bus := s.bus ++ [.read .sensor s.sensorPort, .read .status s.statusPort] } := by
  by_cases h : SensorFaulty (rawReading s.sensorPort) s.statusPort
  · exact ⟨_, _, by rw [sensorStage_of_faulty s h, List.append_assoc]; rfl⟩
  · exact ⟨_, _, by rw [sensorStage_of_trusted s h, List.append_assoc]; rfl⟩

/-- Whatever Temperature it is given, the encoder stage moves `phase` and sets `EF` and `PAT`, and that is all
(42_formatter_update.md R134). -/
theorem encodeStage_shape : ∃ ef pat, encodeStage s = { s with phase := .sEnc, ef := ef, pat := pat } := by
  by_cases h : Rejected s.t
  · exact ⟨_, _, encodeStage_of_rejected s h⟩
  · exact ⟨_, _, encodeStage_of_accepted s h⟩

@[simp] theorem sensorStage_bus :
    (sensorStage s).bus = s.bus ++ [.read .sensor s.sensorPort, .read .status s.statusPort] := by
  obtain ⟨_, _, h⟩ := sensorStage_shape s
  rw [h]

@[simp] theorem sensorStage_wtrace : (sensorStage s).wtrace = s.wtrace := by
  obtain ⟨_, _, h⟩ := sensorStage_shape s
  rw [h]

@[simp] theorem sensorStage_displayPort : (sensorStage s).displayPort = s.displayPort := by
  obtain ⟨_, _, h⟩ := sensorStage_shape s
  rw [h]

@[simp] theorem encodeStage_sf : (encodeStage s).sf = s.sf := by
  obtain ⟨_, _, h⟩ := encodeStage_shape s
  rw [h]

/-! ### The flags and the pattern through the rest of the cycle -/

@[simp] theorem reportSensor_sf : (reportSensor s).sf = s.sf := by
  unfold reportSensor; split <;> rfl

@[simp] theorem reportEncoder_sf : (reportEncoder s).sf = s.sf := by
  unfold reportEncoder; split <;> rfl

@[simp] theorem reportEncoder_ef : (reportEncoder s).ef = s.ef := by
  unfold reportEncoder; split <;> rfl

@[simp] theorem reportEncoder_pat : (reportEncoder s).pat = s.pat := by
  unfold reportEncoder; split <;> rfl

@[simp] theorem commit_sf : (commit s).sf = s.sf := by
  unfold commit; split <;> rfl

@[simp] theorem commit_ef : (commit s).ef = s.ef := by
  unfold commit; split <;> rfl

@[simp] theorem commit_pat : (commit s).pat = s.pat := by
  unfold commit; split <;> rfl

@[simp] theorem finishCycle_sf : (finishCycle s).sf = s.sf := rfl
@[simp] theorem finishCycle_ef : (finishCycle s).ef = s.ef := rfl
@[simp] theorem finishCycle_pat : (finishCycle s).pat = s.pat := rfl

@[simp] theorem beginCycle_sensorPort : (beginCycle s).sensorPort = s.sensorPort := rfl
@[simp] theorem beginCycle_statusPort : (beginCycle s).statusPort = s.statusPort := rfl
@[simp] theorem beginCycle_wtrace : (beginCycle s).wtrace = [] := rfl
@[simp] theorem beginCycle_bus : (beginCycle s).bus = [] := rfl

/-! ### Writing a list of words -/

/-- From `s` to `s'` the only port accesses are writes of the words `l` to the display, in order: they are appended to
`WTRACE` and to the access record alike, and the last of them, if any, is what the display holds. -/
structure Writes (l : List Word) (s s' : State) : Prop where
  wtrace : s'.wtrace = s.wtrace ++ l
  bus : s'.bus = s.bus ++ l.map .write
  displayPort : s'.displayPort = l.getLast?.getD s.displayPort

variable {s}

theorem writes_nil {s' : State} :
    Writes [] s s' ↔ s'.wtrace = s.wtrace ∧ s'.bus = s.bus ∧ s'.displayPort = s.displayPort := by
  constructor
  · rintro ⟨htrace, hbus, hdisplay⟩
    exact ⟨by simpa using htrace, by simpa using hbus, hdisplay⟩
  · rintro ⟨htrace, hbus, hdisplay⟩
    exact ⟨by simpa using htrace, by simpa using hbus, hdisplay⟩

theorem Writes.refl : Writes [] s s := writes_nil.2 ⟨rfl, rfl, rfl⟩

theorem Writes.trans {l l' : List Word} {s' s'' : State} (h : Writes l s s') (h' : Writes l' s' s'') :
    Writes (l ++ l') s s'' where
  wtrace := by rw [h'.wtrace, h.wtrace, List.append_assoc]
  bus := by rw [h'.bus, h.bus, List.map_append, List.append_assoc]
  displayPort := by
    rw [h'.displayPort, h.displayPort, List.getLast?_append]
    cases l'.getLast? <;> rfl

theorem memWrite_writes (w : Word) : Writes [w] s (memWrite w s) := ⟨rfl, rfl, rfl⟩

variable (s)

/-! ### The words written by each part of the cycle -/

/-- The words a stage's report writes (42_formatter_update.md R136). -/
def reportWords (failed : Bool) : List Word := if failed then [errPattern] else []

/-- The words the commit writes (42_formatter_update.md R136). -/
def commitWords (sf ef : Bool) (pat : Word) : List Word := if sf || ef then [] else [pat]

/-- The words a whole cycle writes, by its two flags and its pattern (42_formatter_update.md R137). -/
def cycleWords (sf ef : Bool) (pat : Word) : List Word :=
  reportWords sf ++ reportWords ef ++ commitWords sf ef pat

theorem reportSensor_writes : Writes (reportWords s.sf) s (reportSensor s) := by
  cases h : s.sf
  · rw [reportSensor_of_ok s h]; exact .refl
  · rw [reportSensor_of_failed s h]; exact memWrite_writes errPattern

theorem reportEncoder_writes : Writes (reportWords s.ef) s (reportEncoder s) := by
  cases h : s.ef
  · rw [reportEncoder_of_ok s h]; exact .refl
  · rw [reportEncoder_of_failed s h]; exact memWrite_writes errPattern

theorem commit_writes : Writes (commitWords s.sf s.ef s.pat) s (commit s) := by
  cases h : s.sf || s.ef
  · rw [commit_of_ok s h, commitWords, h]; exact ⟨rfl, rfl, rfl⟩
  · rw [commit_of_failed s h, commitWords, h]; exact writes_nil.2 ⟨rfl, rfl, rfl⟩

theorem finishCycle_writes : Writes [] s (finishCycle s) := writes_nil.2 ⟨rfl, rfl, rfl⟩

theorem encodeStage_writes : Writes [] s (encodeStage s) := by
  obtain ⟨_, _, h⟩ := encodeStage_shape s
  rw [h]
  exact writes_nil.2 ⟨rfl, rfl, rfl⟩

/-- After its sensor stage a cycle writes the words of its two flags and its pattern, for any encoder stage that accesses
no port and leaves `SF`. -/
theorem cycle_writes (sensor encoder : State → State) (hw : ∀ x, Writes [] x (encoder x))
    (hsf : ∀ x, (encoder x).sf = x.sf) :
    Writes (cycleWords (cycle sensor encoder s).sf (cycle sensor encoder s).ef (cycle sensor encoder s).pat)
      (sensor (beginCycle s)) (cycle sensor encoder s) := by
  have h := (reportSensor_writes (sensor (beginCycle s))).trans (hw _)
    |>.trans (reportEncoder_writes _) |>.trans (commit_writes _) |>.trans (finishCycle_writes _)
  simpa [cycle, cycleWords, hsf] using h

/-- The status of a cycle is 1 exactly when one of its flags is set (42_formatter_update.md R136). -/
theorem cycle_ret (sensor encoder : State → State) :
    (cycle sensor encoder s).ret = statusCode ((cycle sensor encoder s).sf || (cycle sensor encoder s).ef) := rfl

/-! ### The accesses of `UPDATE` -/

/-- The state `UPDATE` leaves. -/
def updateResult : State := cycle sensorStage encodeStage s

theorem exec_update : exec .update s = .next (updateResult s) := rfl

theorem updateResult_ret : (updateResult s).ret = statusCode ((updateResult s).sf || (updateResult s).ef) :=
  cycle_ret s sensorStage encodeStage

theorem updateResult_writes :
    Writes (cycleWords (updateResult s).sf (updateResult s).ef (updateResult s).pat)
      (sensorStage (beginCycle s)) (updateResult s) :=
  cycle_writes s sensorStage encodeStage encodeStage_writes encodeStage_sf

/-- `UPDATE` starts from an empty trace, so what it leaves in `WTRACE` is exactly what it wrote (10_state.md R30). -/
theorem updateResult_wtrace :
    (updateResult s).wtrace = cycleWords (updateResult s).sf (updateResult s).ef (updateResult s).pat := by
  simpa using (updateResult_writes s).wtrace

/-- Both reads of `UPDATE` precede its writes, and its writes are those of `WTRACE` (20_memory.md R47, R49). -/
theorem updateResult_bus :
    (updateResult s).bus
      = [.read .sensor s.sensorPort, .read .status s.statusPort] ++ (updateResult s).wtrace.map .write := by
  simpa [updateResult_wtrace] using (updateResult_writes s).bus

/-! ### How many words a cycle writes -/

theorem statusCode_eq_zero_iff (failed : Bool) : statusCode failed = 0#1 ↔ failed = false := by
  cases failed <;> decide

theorem statusCode_eq_one_iff (failed : Bool) : statusCode failed = 1#1 ↔ failed = true := by
  cases failed <;> decide

/-- The success path: the pattern, once (20_memory.md R48). -/
theorem cycleWords_of_ok {sf ef : Bool} (pat : Word) (h : (sf || ef) = false) : cycleWords sf ef pat = [pat] := by
  obtain ⟨rfl, rfl⟩ := Bool.or_eq_false_iff.1 h
  rfl

/-- A failure path: `ERR` once for each failed stage, and no pattern (20_memory.md R48). -/
theorem cycleWords_of_failed {sf ef : Bool} (pat : Word) (h : (sf || ef) = true) :
    cycleWords sf ef pat = List.replicate (sf.toNat + ef.toNat) errPattern := by
  cases sf <;> cases ef
  · exact absurd h (by decide)
  all_goals rfl

theorem one_or_two_of_or_eq_true {sf ef : Bool} (h : (sf || ef) = true) :
    sf.toNat + ef.toNat = 1 ∨ sf.toNat + ef.toNat = 2 := by
  revert sf ef
  decide

/-! ### The operations other than `UPDATE` -/

/-- An operation other than `UPDATE` leaves an empty trace and the display as it was (20_memory.md R40, R48). -/
theorem exec_writes_nothing (i : Instr) (hi : i ≠ .update) :
    ∃ t, exec i s = .next t ∧ t.wtrace = [] ∧ t.displayPort = s.displayPort := by
  cases i with
  | nop => exact ⟨_, rfl, rfl, rfl⟩
  | rdtemp => exact ⟨_, rfl, sensorStage_wtrace _, sensorStage_displayPort _⟩
  | encode temp =>
    obtain ⟨htrace, -, hdisplay⟩ := writes_nil.1 (encodeStage_writes (setTemp temp (startOperation s)))
    exact ⟨_, rfl, htrace, hdisplay⟩
  | update => exact absurd rfl hi

/-! ### The obligations -/

/-- Settles O38: each stage adds to the access record what its own lemma says, and the rest of a cycle adds the writes it
adds to `WTRACE`. -/
theorem portAccessesOfEachOperation : Obligations.PortAccessesOfEachOperation := by
  intro s
  refine ⟨⟨_, rfl, rfl⟩, ⟨_, rfl, sensorStage_bus _⟩, fun temp => ⟨_, rfl, ?_⟩, ⟨_, exec_update s, updateResult_bus s⟩⟩
  exact (encodeStage_writes (setTemp temp (startOperation s))).bus

/-- Settles O39: the words of a cycle are one pattern if both flags are clear and otherwise one `ERR` for each flag set;
no other operation contains a write. -/
theorem onlyUpdateWritesOnceOrTwice : Obligations.OnlyUpdateWritesOnceOrTwice := by
  intro s
  refine ⟨⟨_, exec_update s, fun hret => ?_, fun hret => ?_⟩, exec_writes_nothing s⟩
  · rw [updateResult_ret, statusCode_eq_zero_iff] at hret
    rw [updateResult_wtrace, cycleWords_of_ok _ hret, List.length_singleton]
  · rw [updateResult_ret, statusCode_eq_one_iff] at hret
    rw [updateResult_wtrace, cycleWords_of_failed _ hret, List.length_replicate]
    exact ⟨one_or_two_of_or_eq_true hret, fun w hw => List.eq_of_mem_replicate hw⟩

end Sys2Proof.Machine

/-!
PROOFS. The command word (30_encoding.md R61 to R63): an operation is known by its code but for the operand of `ENCODE`,
`decode` takes the code from bits 19:18, and the mask keeps just those bits.
-/

namespace Sys2Proof

/-! ### An operation by its code -/

theorem Instr.op_eq_nop_iff {i : Instr} : i.op = 0b00#2 ↔ i = .nop := by
  cases i <;> simp [Instr.op]

theorem Instr.op_eq_rdtemp_iff {i : Instr} : i.op = 0b01#2 ↔ i = .rdtemp := by
  cases i <;> simp [Instr.op]

theorem Instr.op_eq_encode_iff {i : Instr} : i.op = 0b10#2 ↔ ∃ temp, i = .encode temp := by
  cases i <;> simp [Instr.op]

theorem Instr.op_eq_update_iff {i : Instr} : i.op = 0b11#2 ↔ i = .update := by
  cases i <;> simp [Instr.op]

/-- Operations with one code that is not `ENCODE`'s have no operand to differ in (30_encoding.md R63). -/
theorem Instr.eq_of_op_eq {i j : Instr} (hop : i.op = j.op) (hencode : i.op ≠ 0b10#2) : i = j := by
  cases i with
  | nop => exact (op_eq_nop_iff.1 hop.symm).symm
  | rdtemp => exact (op_eq_rdtemp_iff.1 hop.symm).symm
  | encode temp => exact absurd rfl hencode
  | update => exact (op_eq_update_iff.1 hop.symm).symm

/-! ### What `decode` takes from the word -/

/-- The decoded operation has the code in bits 19:18 of the word (30_encoding.md R60, R62). -/
theorem decode_op (w : Cmd) : (decode w).op = cmdOp w := by
  have hcases : ∀ c : BitVec 2, c = 0b00#2 ∨ c = 0b01#2 ∨ c = 0b10#2 ∨ c = 0b11#2 := by decide
  obtain h | h | h | h := hcases (cmdOp w) <;> simp [decode, h, Instr.op]

theorem decode_of_cmdOp_encode {w : Cmd} (h : cmdOp w = 0b10#2) : decode w = .encode (cmdTemperature w) := by
  simp [decode, h]

/-! ### The mask -/

/-- `CMD & mask` is the code followed by zeros. -/
theorem and_mask_eq_append (w : Cmd) : w &&& 0xC0000#20 = cmdOp w ++ 0#18 := by
  apply BitVec.eq_of_toNat_eq
  rw [and_mask_toNat, append_toNat]
  simp

/-- `CMD & mask = match`, where `match` is a code followed by zeros, tests the code of the decoded operation
(30_encoding.md R62). -/
theorem and_mask_eq_iff_decode_op (w : Cmd) (op : BitVec 2) : w &&& 0xC0000#20 = op ++ 0#18 ↔ (decode w).op = op := by
  rw [and_mask_eq_append, decode_op, BitVec.append_left_inj]

/-! ### The obligations -/

/-- Settles O2: each row's match value is its operation's code followed by zeros, so the test is one of the decoded
operation's code. -/
theorem decodeFollowsMatchAndMask : Obligations.DecodeFollowsMatchAndMask := by
  intro w
  have hmask := and_mask_eq_iff_decode_op w
  exact ⟨(hmask 0b00#2).trans Instr.op_eq_nop_iff, (hmask 0b01#2).trans Instr.op_eq_rdtemp_iff,
    (hmask 0b10#2).trans Instr.op_eq_encode_iff, (hmask 0b11#2).trans Instr.op_eq_update_iff⟩

/-- Settles O3: the operand is `cmdTemperature`, whose fields are remainders of the word as a number; the sign of the
magnitude is two's complement's. -/
theorem encodeOperandIsReadFromTheWord : Obligations.EncodeOperandIsReadFromTheWord := by
  intro w hmask
  have hop : cmdOp w = 0b10#2 := (decode_op w).symm.trans ((and_mask_eq_iff_decode_op w 0b10#2).1 hmask)
  refine ⟨cmdTemperature w, decode_of_cmdOp_encode hop, ?_, ?_⟩
  · rw [cmdTemperature, code_unitOfCode, cmdUnit_toNat]
  · rw [cmdTemperature, BitVec.toInt_eq_toNat_cond, cmdMag_toNat]
    split <;> split <;> omega

/-- Settles O4: equal masked words give equal codes, and a code other than `ENCODE`'s fixes the operation. -/
theorem operandBitsIgnoredOutsideEncode : Obligations.OperandBitsIgnoredOutsideEncode := by
  intro w w' hsame hencode
  have hop : (decode w).op = (decode w').op := by
    rw [decode_op w', ← and_mask_eq_iff_decode_op, hsame, and_mask_eq_append]
  exact Instr.eq_of_op_eq hop (mt (and_mask_eq_iff_decode_op w 0b10#2).2 hencode)

end Sys2Proof

/-!
PROOFS. Constants and bits of the port words (30_encoding.md R65, R70, R71).
-/

namespace Sys2Proof.Machine

/-- A bit is 1 exactly when the word under the mask of that bit alone is non-zero. -/
theorem getLsbD_iff_and_twoPow_ne_zero (w : Word) {i : Nat} (hi : i < 32) :
    w.getLsbD i = true ↔ w &&& BitVec.twoPow 32 i ≠ 0#32 := by
  have hpow : BitVec.twoPow 32 i ≠ 0#32 := fun h => by
    simpa [hi] using congrArg (BitVec.getLsbD · i) h
  rw [BitVec.and_twoPow]
  cases w.getLsbD i <;> simp [hpow]

/-- Settles O21: `0x04` is the mask of bit 2 alone and `0x20` that of bit 5. -/
theorem statusBitsByMask : Obligations.StatusBitsByMask := fun w =>
  ⟨getLsbD_iff_and_twoPow_ne_zero w (i := 2) (by decide), getLsbD_iff_and_twoPow_ne_zero w (i := 5) (by decide)⟩

/-- Settles O24: both sides are closed 7-bit constants. -/
theorem glyphTableValues : Obligations.GlyphTableValues := by
  unfold Obligations.GlyphTableValues
  decide

end Sys2Proof.Machine

/-!
PROOFS. The sensor reader (40_sensor_reader.md R80 to R87): the conversion in integers with its ranges, what is stored of
it, and the state `RDTEMP` leaves on each of its two paths.
-/

namespace Sys2Proof.Machine

/-! ### The conversion in integers -/

theorem celsiusOf_eq (v : Int) : celsiusOf v = if v % 32 ≥ 16 then v / 32 - 450 + 1 else v / 32 - 450 := by
  rw [celsiusOf, roundUp_eq, scale_eq_div]

/-- The Celsius range of trusted readings (40_sensor_reader.md R87). -/
theorem celsiusOf_mem_range {v : Int} (lo : 0 ≤ v) (hi : v ≤ 28800) : -450 ≤ celsiusOf v ∧ celsiusOf v ≤ 450 := by
  rw [celsiusOf_eq]
  split <;> omega

/-- The conversion with its truncating division as two floor divisions of non-negative integers. -/
theorem fahrenheitOf_eq (c : Int) :
    fahrenheitOf c = (if c * 9 ≥ 0 then c * 9 / 5 else -(-(c * 9) / 5)) + 320 := by
  rw [fahrenheitOf]
  split
  case isTrue h => rw [tdiv_five_of_nonneg h]
  case isFalse h => rw [tdiv_five_of_neg (Int.not_le.1 h)]

/-- The Fahrenheit range, from the Celsius range (40_sensor_reader.md R87). -/
theorem fahrenheitOf_mem_range {c : Int} (lo : -450 ≤ c) (hi : c ≤ 450) :
    -490 ≤ fahrenheitOf c ∧ fahrenheitOf c ≤ 1130 := by
  rw [fahrenheitOf_eq]
  split <;> omega

/-! ### The Temperature of a trusted reading -/

/-- With status bit 5 the Fahrenheit value is stored, and the 16-bit magnitude holds it (40_sensor_reader.md R84, R87). -/
theorem selectUnit_of_fMode {c : Int} {status : Word} (lo : -450 ≤ c) (hi : c ≤ 450) (h : fMode status = true) :
    (selectUnit c status).mag.toInt = fahrenheitOf c ∧ (selectUnit c status).unit = .fahrenheit := by
  obtain ⟨hlo, hhi⟩ := fahrenheitOf_mem_range lo hi
  rw [selectUnit, if_pos h]
  exact ⟨toInt_ofInt_mag (by omega) (by omega), rfl⟩

/-- Without status bit 5 the Celsius value is stored, and the 16-bit magnitude holds it (40_sensor_reader.md R84, R87). -/
theorem selectUnit_of_not_fMode {c : Int} {status : Word} (lo : -450 ≤ c) (hi : c ≤ 450) (h : ¬ fMode status = true) :
    (selectUnit c status).mag.toInt = c ∧ (selectUnit c status).unit = .celsius := by
  rw [selectUnit, if_neg h]
  exact ⟨toInt_ofInt_mag (by omega) (by omega), rfl⟩

/-- SR.FAULT as 40_sensor_reader.md R80 writes it, in integers and bits of the two port words. -/
theorem sensorFaulty_iff {sensor status : Word} :
    SensorFaulty (rawReading sensor) status ↔ sensor.toInt < 0 ∨ sensor.toInt > 28800 ∨ status.getLsbD 2 = true :=
  Iff.rfl

theorem not_sensorFaulty_iff_trusted {sensor status : Word} :
    ¬ SensorFaulty (rawReading sensor) status ↔ Trusted sensor status := by
  simp [sensorFaulty_iff, Trusted]

/-! ### The state `RDTEMP` leaves -/

variable (s : State)

/-- The state `RDTEMP` leaves. -/
def rdtempResult : State := finishRdtemp (sensorStage (startOperation s))

theorem exec_rdtemp : exec .rdtemp s = .next (rdtempResult s) := rfl

/-- A reading that is not trusted: the sentinel, `SF` and status 1, and the two reads (40_sensor_reader.md R80, R85). -/
theorem rdtempResult_of_faulty (h : SensorFaulty (rawReading s.sensorPort) s.statusPort) :
    rdtempResult s = { s with
      phase := .idle, sf := true, ret := 1#1, t := { mag := 0#16, unit := .error }, wtrace := [],
      bus := [.read .sensor s.sensorPort, .read .status s.statusPort] } := by
  rw [rdtempResult, sensorStage_of_faulty (startOperation s) h]
  rfl

/-- A trusted reading: its Temperature, `SF` clear and status 0, and the two reads (40_sensor_reader.md R84, R85). -/
theorem rdtempResult_of_trusted (h : ¬ SensorFaulty (rawReading s.sensorPort) s.statusPort) :
    rdtempResult s = { s with
      phase := .idle, sf := false, ret := 0#1, wtrace := [],
      t := selectUnit (celsiusOf (rawReading s.sensorPort)) s.statusPort,
      bus := [.read .sensor s.sensorPort, .read .status s.statusPort] } := by
  rw [rdtempResult, sensorStage_of_trusted (startOperation s) h]
  rfl

/-! ### The obligation -/

/-- Settles O14: on each path the whole state is known, which gives the frame and the status; a trusted reading's value is
in the range the 16-bit magnitude holds, so it is stored as it is. -/
theorem rdtempConvertsTheReading : Obligations.RdtempConvertsTheReading := by
  intro s
  refine ⟨rdtempResult s, exec_rdtemp s, ?_⟩
  by_cases hfault : SensorFaulty (rawReading s.sensorPort) s.statusPort
  case pos =>
    rw [rdtempResult_of_faulty s hfault]
    refine ⟨rfl, rfl, rfl, rfl, rfl, rfl, rfl, ?_⟩
    dsimp only
    rw [if_pos (sensorFaulty_iff.1 hfault)]
    exact ⟨rfl, rfl, rfl, rfl⟩
  case neg =>
    obtain ⟨hlo, hhi, -⟩ := not_sensorFaulty_iff_trusted.1 hfault
    obtain ⟨hclo, hchi⟩ := celsiusOf_mem_range hlo hhi
    rw [rdtempResult_of_trusted s hfault]
    refine ⟨rfl, rfl, rfl, rfl, rfl, rfl, rfl, ?_⟩
    dsimp only
    rw [if_neg (mt sensorFaulty_iff.2 hfault), ← celsiusOf_eq, ← fahrenheitOf_eq]
    refine ⟨rfl, rfl, ?_⟩
    split
    case isTrue hmode => exact selectUnit_of_fMode hclo hchi hmode
    case isFalse hmode => exact selectUnit_of_not_fMode hclo hchi hmode

end Sys2Proof.Machine

/-!
PROOFS. `ENCODE` (42_formatter_update.md R134): the state it leaves on each of its two paths, and the placement cascade
(41_digit_glyph_encoder.md R105 to R108) in natural numbers, from the decimal digits of the absolute value.
-/

namespace Sys2Proof.Machine

/-! ### The state `ENCODE` leaves -/

section EncodeResult

variable (temp : Temperature) (s : State)

/-- The state `ENCODE` leaves. -/
def encodeResult : State := finishEncode (encodeStage (setTemp temp (startOperation s)))

theorem exec_encode : exec (.encode temp) s = .next (encodeResult temp s) := rfl

/-- A rejected operand: the error pattern, `EF` and status 1, and no access (42_formatter_update.md R132, R134). -/
theorem encodeResult_of_rejected (h : Rejected temp) :
    encodeResult temp s = { s with
      t := temp, phase := .idle, ef := true, ret := 1#1, pat := errPattern, wtrace := [], bus := [] } := by
  rw [encodeResult, encodeStage_of_rejected (setTemp temp (startOperation s)) h]
  rfl

/-- An accepted operand: its pattern, `EF` clear and status 0, and no access (42_formatter_update.md R134). -/
theorem encodeResult_of_accepted (h : ¬ Rejected temp) :
    encodeResult temp s = { s with
      t := temp, phase := .idle, ef := false, ret := 0#1, pat := patternOf temp, wtrace := [], bus := [] } := by
  rw [encodeResult, encodeStage_of_accepted (setTemp temp (startOperation s)) h]
  rfl

end EncodeResult

/-- DE.VALIDATE as 41_digit_glyph_encoder.md R100 writes it, in integers. -/
theorem rejected_iff {m : Mag} {u : TempUnit} :
    Rejected { mag := m, unit := u }
      ↔ u = .error ∨ (u = .celsius ∧ (m.toInt < -450 ∨ m.toInt > 450)) ∨ (u ≠ .celsius ∧ u ≠ .fahrenheit)
        ∨ (u = .fahrenheit ∧ (m.toInt < -490 ∨ m.toInt > 1130)) :=
  Iff.rfl

/-! ### The placement cascade in natural numbers -/

/-- The digits as remainders below ten (41_digit_glyph_encoder.md R102, R103). -/
theorem digitsOf_eq (a : Nat) :
    digitsOf a = { h := Fin.ofNat 10 (a / 1000 % 10), t := Fin.ofNat 10 (a / 100 % 10),
                   o := Fin.ofNat 10 (a / 10 % 10), f := Fin.ofNat 10 (a % 10) } := by
  simp [digitsOf, Fin.ofNat]

theorem ofNat_mod_ten_eq_zero_iff (n : Nat) : Fin.ofNat 10 (n % 10) = 0 ↔ n % 10 = 0 := by
  simp [Fin.ext_iff, Fin.ofNat]

section Placement

variable (m : Int)

/-- R105 on the sign and the digits of `m`. -/
theorem placeHundreds_digitsOf :
    placeHundreds (isNegative m) (digitsOf (absMagnitude m))
      = if m.natAbs / 1000 % 10 ≠ 0 then glyph (Fin.ofNat 10 (m.natAbs / 1000 % 10))
        else if m < 0 ∧ m.natAbs / 100 % 10 ≠ 0 then minusGlyph else blankGlyph := by
  simp only [placeHundreds, absMagnitude_eq_natAbs, isNegative_iff, digitsOf_eq, ne_eq, ofNat_mod_ten_eq_zero_iff]

/-- R106 on the sign and the digits of `m`, with `BLANK` for clause (e). -/
theorem placeTens_digitsOf :
    placeTens placementPolicy (isNegative m) (digitsOf (absMagnitude m))
      = if m.natAbs / 100 % 10 = 0 ∧ m.natAbs / 1000 % 10 ≠ 0 then glyph 0
        else if m < 0 ∧ m.natAbs / 1000 % 10 = 0 ∧ m.natAbs / 100 % 10 = 0 ∧ m.natAbs / 10 % 10 ≠ 0 then minusGlyph
        else if m.natAbs / 1000 % 10 = 0 ∧ m.natAbs / 100 % 10 = 0 ∧ m.natAbs / 10 % 10 = 0 then blankGlyph
        else if m.natAbs / 100 % 10 ≠ 0 then glyph (Fin.ofNat 10 (m.natAbs / 100 % 10)) else blankGlyph := by
  simp only [placeTens, absMagnitude_eq_natAbs, isNegative_iff, digitsOf_eq, ne_eq, ofNat_mod_ten_eq_zero_iff,
    placementPolicy]

/-- R107 on the digits of `m`: the sign is not tested in its clause (b). -/
theorem placeOnes_digitsOf :
    placeOnes placementPolicy (isNegative m) (digitsOf (absMagnitude m))
      = if m.natAbs / 10 % 10 ≠ 0 then glyph (Fin.ofNat 10 (m.natAbs / 10 % 10))
        else if m.natAbs / 1000 % 10 = 0 ∧ m.natAbs / 100 % 10 = 0 ∧ m.natAbs % 10 ≠ 0 then minusGlyph
        else if m.natAbs / 1000 % 10 = 0 ∧ m.natAbs / 100 % 10 = 0 ∧ m.natAbs % 10 = 0 then blankGlyph
        else glyph 0 := by
  have hsign : onesSign placementPolicy (isNegative m) = minusGlyph := rfl
  have hzero : placementPolicy.onesAtZero = blankGlyph := rfl
  simp only [placeOnes, hsign, hzero, absMagnitude_eq_natAbs, digitsOf_eq, ne_eq, ofNat_mod_ten_eq_zero_iff,
    and_left_comm (a := m.natAbs / 100 % 10 = 0)]

/-- R108 on the digits of `m`. -/
theorem placeTenths_digitsOf :
    placeTenths (digitsOf (absMagnitude m)) = glyph (Fin.ofNat 10 (m.natAbs % 10)) := by
  rw [absMagnitude_eq_natAbs, digitsOf_eq, placeTenths]

end Placement

/-- The pattern is the composition of the four placed glyphs under the unit bit (42_formatter_update.md R134). -/
theorem patternOf_eq_compose (temp : Temperature) :
    patternOf temp = compose temp.unit
      (placeHundreds (isNegative temp.mag.toInt) (digitsOf (absMagnitude temp.mag.toInt)))
      (placeTens placementPolicy (isNegative temp.mag.toInt) (digitsOf (absMagnitude temp.mag.toInt)))
      (placeOnes placementPolicy (isNegative temp.mag.toInt) (digitsOf (absMagnitude temp.mag.toInt)))
      (placeTenths (digitsOf (absMagnitude temp.mag.toInt))) :=
  rfl

/-! ### The obligation -/

/-- Settles O22: on each path the whole state is known, which gives the frame and the status; the accepted pattern is a
sum of its fields because they do not overlap, and each field is its rule of the cascade in natural numbers. -/
theorem encodeComposesThePattern : Obligations.EncodeComposesThePattern := by
  intro m u s
  refine ⟨encodeResult { mag := m, unit := u } s, exec_encode _ s, ?_⟩
  by_cases hrej : Rejected { mag := m, unit := u }
  case pos =>
    rw [encodeResult_of_rejected _ s hrej]
    refine ⟨rfl, rfl, rfl, rfl, rfl, rfl, rfl, ?_⟩
    rw [if_pos (rejected_iff.1 hrej)]
    exact ⟨rfl, rfl, rfl⟩
  case neg =>
    rw [encodeResult_of_accepted _ s hrej]
    refine ⟨rfl, rfl, rfl, rfl, rfl, rfl, rfl, ?_⟩
    rw [if_neg (mt rejected_iff.2 hrej)]
    refine ⟨rfl, rfl, ?_⟩
    dsimp only
    rw [patternOf_eq_compose, compose_toNat, placeHundreds_digitsOf, placeTens_digitsOf, placeOnes_digitsOf,
      placeTenths_digitsOf]
    rfl

end Sys2Proof.Machine

/-!
PROOFS. The cycle against its parts (42_formatter_update.md R135 to R139): what each stage computes as a function of what
it reads, the end of a cycle by its two flags for any two stages, and `UPDATE` as `RDTEMP` followed by `ENCODE`.
-/

namespace Sys2Proof.Machine

variable (s : State)

/-! ### What the stages compute

`SF` and `T` after the sensor stage are functions of the two port words (40_sensor_reader.md R80 to R84); `EF` and `PAT`
after the encoder stage are functions of the Temperature in the latch (42_formatter_update.md R134). -/

theorem sensorStage_sf : (sensorStage s).sf = decide (SensorFaulty (rawReading s.sensorPort) s.statusPort) := by
  by_cases h : SensorFaulty (rawReading s.sensorPort) s.statusPort
  · rw [sensorStage_of_faulty s h, decide_eq_true h]
  · rw [sensorStage_of_trusted s h, decide_eq_false h]

theorem sensorStage_t :
    (sensorStage s).t = if SensorFaulty (rawReading s.sensorPort) s.statusPort then errorTemperature
      else selectUnit (celsiusOf (rawReading s.sensorPort)) s.statusPort := by
  by_cases h : SensorFaulty (rawReading s.sensorPort) s.statusPort
  · rw [sensorStage_of_faulty s h, if_pos h]; rfl
  · rw [sensorStage_of_trusted s h, if_neg h]

theorem encodeStage_ef : (encodeStage s).ef = decide (Rejected s.t) := by
  by_cases h : Rejected s.t
  · rw [encodeStage_of_rejected s h, decide_eq_true h]
  · rw [encodeStage_of_accepted s h, decide_eq_false h]

theorem encodeStage_pat : (encodeStage s).pat = if Rejected s.t then errPattern else patternOf s.t := by
  by_cases h : Rejected s.t
  · rw [encodeStage_of_rejected s h, if_pos h]
  · rw [encodeStage_of_accepted s h, if_neg h]

@[simp] theorem encodeStage_t : (encodeStage s).t = s.t := by
  obtain ⟨_, _, h⟩ := encodeStage_shape s
  rw [h]

/-! ### What `ENCODE` answers -/

section EncodeAnswer

variable (temp : Temperature)

theorem encodeResult_t : (encodeResult temp s).t = temp := encodeStage_t (setTemp temp (startOperation s))

theorem encodeResult_ef : (encodeResult temp s).ef = decide (Rejected temp) :=
  encodeStage_ef (setTemp temp (startOperation s))

theorem encodeResult_pat : (encodeResult temp s).pat = if Rejected temp then errPattern else patternOf temp :=
  encodeStage_pat (setTemp temp (startOperation s))

theorem encodeResult_ret : (encodeResult temp s).ret = statusCode (encodeResult temp s).ef := rfl

end EncodeAnswer

/-- DE.VALIDATE accepts the Temperatures in the displayable range of their unit (41_digit_glyph_encoder.md R100). -/
theorem not_rejected_iff_displayable (temp : Temperature) : ¬ Rejected temp ↔ Displayable temp := by
  obtain ⟨m, u⟩ := temp
  rw [rejected_iff, Displayable]
  cases u <;> simp

/-- What the sensor stage makes of a Celsius value in range is displayable in its unit (40_sensor_reader.md R90). -/
theorem selectUnit_displayable {c : Int} {status : Word} (lo : -450 ≤ c) (hi : c ≤ 450) :
    Displayable (selectUnit c status) := by
  by_cases hmode : fMode status = true
  · obtain ⟨hmag, hunit⟩ := selectUnit_of_fMode lo hi hmode
    exact .inr ⟨hunit, by rw [hmag]; exact fahrenheitOf_mem_range lo hi⟩
  · obtain ⟨hmag, hunit⟩ := selectUnit_of_not_fMode lo hi hmode
    exact .inl ⟨hunit, by rw [hmag]; exact ⟨lo, hi⟩⟩

/-! ### What the parts of a cycle leave alone -/

@[simp] theorem sensorStage_sensorPort : (sensorStage s).sensorPort = s.sensorPort := by
  obtain ⟨_, _, h⟩ := sensorStage_shape s
  rw [h]

@[simp] theorem sensorStage_statusPort : (sensorStage s).statusPort = s.statusPort := by
  obtain ⟨_, _, h⟩ := sensorStage_shape s
  rw [h]

@[simp] theorem encodeStage_sensorPort : (encodeStage s).sensorPort = s.sensorPort := by
  obtain ⟨_, _, h⟩ := encodeStage_shape s
  rw [h]

@[simp] theorem encodeStage_statusPort : (encodeStage s).statusPort = s.statusPort := by
  obtain ⟨_, _, h⟩ := encodeStage_shape s
  rw [h]

@[simp] theorem reportSensor_t : (reportSensor s).t = s.t := by
  unfold reportSensor; split <;> rfl

@[simp] theorem reportSensor_sensorPort : (reportSensor s).sensorPort = s.sensorPort := by
  unfold reportSensor; split <;> rfl

@[simp] theorem reportSensor_statusPort : (reportSensor s).statusPort = s.statusPort := by
  unfold reportSensor; split <;> rfl

@[simp] theorem reportEncoder_t : (reportEncoder s).t = s.t := by
  unfold reportEncoder; split <;> rfl

@[simp] theorem reportEncoder_sensorPort : (reportEncoder s).sensorPort = s.sensorPort := by
  unfold reportEncoder; split <;> rfl

@[simp] theorem reportEncoder_statusPort : (reportEncoder s).statusPort = s.statusPort := by
  unfold reportEncoder; split <;> rfl

@[simp] theorem commit_t : (commit s).t = s.t := by
  unfold commit; split <;> rfl

@[simp] theorem commit_sensorPort : (commit s).sensorPort = s.sensorPort := by
  unfold commit; split <;> rfl

@[simp] theorem commit_statusPort : (commit s).statusPort = s.statusPort := by
  unfold commit; split <;> rfl

@[simp] theorem finishCycle_t : (finishCycle s).t = s.t := rfl
@[simp] theorem finishCycle_sensorPort : (finishCycle s).sensorPort = s.sensorPort := rfl
@[simp] theorem finishCycle_statusPort : (finishCycle s).statusPort = s.statusPort := rfl
@[simp] theorem finishCycle_wtrace : (finishCycle s).wtrace = s.wtrace := rfl
@[simp] theorem finishCycle_displayPort : (finishCycle s).displayPort = s.displayPort := rfl

/-! ### The words of a cycle and its status, by the two flags -/

/-- The word the display holds after a cycle with these flags and this pattern (42_formatter_update.md R137). -/
def finalWord (sf ef : Bool) (pat : Word) : Word := if sf = true ∨ ef = true then errPattern else pat

/-- A cycle writes at least one word, and the last one is the final word whichever flags are set. -/
theorem cycleWords_getLast? (sf ef : Bool) (pat : Word) :
    (cycleWords sf ef pat).getLast? = some (finalWord sf ef pat) := by
  cases sf <;> cases ef <;> rfl

/-- The words of a cycle with the tests of each part written as the cycle's pseudocode tests them
(42_formatter_update.md R136). -/
theorem cycleWords_eq (sf ef : Bool) (pat : Word) :
    cycleWords sf ef pat = (if sf = true then [errPattern] else []) ++ (if ef = true then [errPattern] else [])
      ++ (if sf = true ∨ ef = true then [] else [pat]) := by
  cases sf <;> cases ef <;> rfl

/-- The words of a cycle, row by row (42_formatter_update.md R137). -/
theorem cycleWords_rows (sf ef : Bool) (pat : Word) :
    cycleWords sf ef pat = match sf, ef with
      | false, false => [pat]
      | true, true => [errPattern, errPattern]
      | false, true => [errPattern]
      | true, false => [errPattern] := by
  cases sf <;> cases ef <;> rfl

/-- A status code is 1 exactly when one of the two flags it is returned from is set (30_encoding.md R66). -/
theorem statusCode_or (sf ef : Bool) : statusCode (sf || ef) = if sf = true ∨ ef = true then 1#1 else 0#1 := by
  cases sf <;> cases ef <;> rfl

/-! ### The end of a cycle over any two stages -/

theorem reportSensor_displayPort : (reportSensor s).displayPort = if s.sf then errPattern else s.displayPort := by
  unfold reportSensor; split <;> rfl

theorem reportEncoder_displayPort : (reportEncoder s).displayPort = if s.ef then errPattern else s.displayPort := by
  unfold reportEncoder; split <;> rfl

theorem commit_displayPort : (commit s).displayPort = if s.sf || s.ef then s.displayPort else s.pat := by
  unfold commit; split <;> rfl

section AnyStages

variable (sensor encoder : State → State)

@[simp] theorem cycle_ef :
    (cycle sensor encoder s).ef = (encoder (reportSensor (sensor (beginCycle s)))).ef := by
  simp [cycle]

@[simp] theorem cycle_pat :
    (cycle sensor encoder s).pat = (encoder (reportSensor (sensor (beginCycle s)))).pat := by
  simp [cycle]

theorem cycle_sf (hsf : ∀ x, (encoder x).sf = x.sf) :
    (cycle sensor encoder s).sf = (sensor (beginCycle s)).sf := by
  simp [cycle, hsf]

/-- The trace of a cycle whose stages write nothing, by the flags and the pattern it leaves
(42_formatter_update.md R137). -/
theorem cycle_wtrace (hsensor : ∀ x, (sensor x).wtrace = x.wtrace) (hencoder : ∀ x, (encoder x).wtrace = x.wtrace)
    (hsf : ∀ x, (encoder x).sf = x.sf) :
    (cycle sensor encoder s).wtrace
      = cycleWords (cycle sensor encoder s).sf (cycle sensor encoder s).ef (cycle sensor encoder s).pat := by
  simp [cycle, cycleWords, hsensor, hencoder, hsf, (reportSensor_writes _).wtrace, (reportEncoder_writes _).wtrace,
    (commit_writes _).wtrace]

/-- The display after a cycle whose encoder stage leaves the display alone holds the final word, whatever it held before
(42_formatter_update.md R137). -/
theorem cycle_displayPort (hencoder : ∀ x, (encoder x).displayPort = x.displayPort)
    (hsf : ∀ x, (encoder x).sf = x.sf) :
    (cycle sensor encoder s).displayPort
      = finalWord (cycle sensor encoder s).sf (cycle sensor encoder s).ef (cycle sensor encoder s).pat := by
  rw [cycle_sf s sensor encoder hsf, cycle_ef, cycle_pat]
  simp only [cycle, finishCycle_displayPort, commit_displayPort, reportEncoder_displayPort, reportSensor_displayPort,
    reportEncoder_sf, reportEncoder_ef, reportEncoder_pat, reportSensor_sf, hencoder, hsf]
  generalize (sensor (beginCycle s)).sf = sf
  generalize (encoder (reportSensor (sensor (beginCycle s)))).ef = ef
  cases sf <;> cases ef <;> rfl

end AnyStages

/-! ### `UPDATE` by its stages -/

/-- `UPDATE` leaves in `T` and `SF` what `RDTEMP` does (42_formatter_update.md R136). -/
theorem updateResult_t : (updateResult s).t = (rdtempResult s).t := by
  have hcycle : (updateResult s).t = (sensorStage (beginCycle s)).t := by simp [updateResult, cycle]
  rw [hcycle, sensorStage_t]
  exact (sensorStage_t (startOperation s)).symm

theorem updateResult_sf : (updateResult s).sf = (rdtempResult s).sf := by
  rw [updateResult, cycle_sf s sensorStage encodeStage encodeStage_sf, sensorStage_sf]
  exact (sensorStage_sf (startOperation s)).symm

/-- `UPDATE` leaves in `EF` and `PAT` what the encoder makes of the Temperature it leaves in `T`
(42_formatter_update.md R136). -/
theorem updateResult_ef : (updateResult s).ef = decide (Rejected (updateResult s).t) := by
  simp only [updateResult, cycle_ef, encodeStage_ef]
  simp [cycle]

theorem updateResult_pat :
    (updateResult s).pat
      = if Rejected (updateResult s).t then errPattern else patternOf (updateResult s).t := by
  simp only [updateResult, cycle_pat, encodeStage_pat]
  simp [cycle]

theorem updateResult_displayPort :
    (updateResult s).displayPort = finalWord (updateResult s).sf (updateResult s).ef (updateResult s).pat :=
  cycle_displayPort s sensorStage encodeStage (fun x => (writes_nil.1 (encodeStage_writes x)).2.2) encodeStage_sf

theorem updateResult_sensorPort : (updateResult s).sensorPort = s.sensorPort := by
  simp [updateResult, cycle]

theorem updateResult_statusPort : (updateResult s).statusPort = s.statusPort := by
  simp [updateResult, cycle]

/-! ### The flags of `UPDATE` by the reading -/

theorem updateResult_sf_eq_false_iff : (updateResult s).sf = false ↔ Trusted s.sensorPort s.statusPort := by
  rw [updateResult_sf, ← not_sensorFaulty_iff_trusted, ← decide_eq_false_iff_not]
  exact Eq.congr_left (sensorStage_sf (startOperation s))

/-- Inside `UPDATE` the encoder fails exactly when the sensor stage did: it is given `{0, Error}` or a displayable
Temperature (42_formatter_update.md R137, R138). -/
theorem updateResult_ef_eq_sf : (updateResult s).ef = (updateResult s).sf := by
  rw [updateResult_ef, updateResult_t, updateResult_sf]
  by_cases h : SensorFaulty (rawReading s.sensorPort) s.statusPort
  · rw [rdtempResult_of_faulty s h]
    exact decide_eq_true (.inl rfl)
  · obtain ⟨hlo, hhi, -⟩ := not_sensorFaulty_iff_trusted.1 h
    obtain ⟨hclo, hchi⟩ := celsiusOf_mem_range hlo hhi
    rw [rdtempResult_of_trusted s h]
    exact decide_eq_false ((not_rejected_iff_displayable _).2 (selectUnit_displayable hclo hchi))

/-! ### The obligations -/

/-- Settles O30: `PAT`, `EF` and `RET` are functions of the Temperature in the latch, which is the operand. -/
theorem encodeIsAFunctionOfItsOperand : Obligations.EncodeIsAFunctionOfItsOperand := by
  intro temp s1 s2
  refine ⟨_, _, exec_encode temp s1, exec_encode temp s2, ?_, ?_, ?_, ?_⟩
  · rw [encodeResult_pat, encodeResult_pat]
  · rw [encodeResult_ef, encodeResult_ef]
  · rw [encodeResult_ret, encodeResult_ret, encodeResult_ef, encodeResult_ef]
  · rw [encodeResult_t, encodeResult_t]

/-- Settles O32: `UPDATE` agrees with `RDTEMP` on `T` and `SF`, and its encoder stage with `ENCODE` on that `T`, so its
words, its status and its last word are those of their flags and pattern. -/
theorem updateRunsBothStagesInSequence : Obligations.UpdateRunsBothStagesInSequence := by
  intro s
  have hef : (updateResult s).ef = (encodeResult (rdtempResult s).t (rdtempResult s)).ef := by
    rw [updateResult_ef, updateResult_t, encodeResult_ef]
  have hpat : (updateResult s).pat = (encodeResult (rdtempResult s).t (rdtempResult s)).pat := by
    rw [updateResult_pat, updateResult_t, encodeResult_pat]
  refine ⟨_, _, _, exec_rdtemp s, exec_encode _ _, exec_update s, updateResult_t s, updateResult_sf s, hpat, hef, ?_, ?_,
    ?_, rfl, updateResult_sensorPort s, updateResult_statusPort s⟩
  · rw [← hef, ← updateResult_sf, updateResult_ret, statusCode_or]
  · rw [← hef, ← hpat, ← updateResult_sf, updateResult_wtrace, cycleWords_eq]
    rfl
  · rw [updateResult_wtrace, cycleWords_getLast?, updateResult_displayPort]

/-- Settles O34: the trace and the display of a cycle are functions of its two flags and its pattern; in `UPDATE` the two
flags are equal, and clear exactly on a trusted reading. -/
theorem cycleWritesByTheTwoFlags : Obligations.CycleWritesByTheTwoFlags := by
  refine ⟨fun sensor encoder s hsensor hencoder => ?_, fun s => ⟨_, exec_update s, ?_⟩⟩
  · have hsf : ∀ x, (encoder x).sf = x.sf := fun x => (hencoder x).2.2
    have htrace := cycle_wtrace s sensor encoder hsensor (fun x => (hencoder x).1) hsf
    have hdisplay := cycle_displayPort s sensor encoder (fun x => (hencoder x).2.1) hsf
    have hret := cycle_ret s sensor encoder
    rw [cycle_sf s sensor encoder hsf, cycle_ef] at htrace hdisplay hret
    rw [cycle_pat] at htrace hdisplay
    exact ⟨htrace.trans (cycleWords_rows _ _ _), hdisplay, hret.trans (statusCode_or _ _)⟩
  · rw [updateResult_ef_eq_sf, and_self, and_self, ← updateResult_sf_eq_false_iff, Bool.not_eq_false]
    exact ⟨.rfl, .rfl⟩

/-- Settles O35: `NOP` empties the trace and the access record and returns 0. -/
theorem nopReturnsZeroAndLeavesTheRest : Obligations.NopReturnsZeroAndLeavesTheRest := fun _ =>
  ⟨_, rfl, rfl, rfl, rfl, rfl, rfl, rfl, rfl, rfl, rfl, rfl⟩

end Sys2Proof.Machine

/-!
PROOFS. The two faults (60_exceptions.md R150, R151): what an operation containing a stage answers when the stage detects
its fault, from what that stage computes and from the flag the operation returns.
-/

namespace Sys2Proof.Machine

variable (s : State)

/-! ### The flag and the status of `RDTEMP` and of `UPDATE` -/

theorem rdtempResult_sf_eq_true_iff :
    (rdtempResult s).sf = true ↔ SensorFaulty (rawReading s.sensorPort) s.statusPort := by
  rw [← decide_eq_true_iff (p := SensorFaulty (rawReading s.sensorPort) s.statusPort)]
  exact Eq.congr_left (sensorStage_sf (startOperation s))

theorem rdtempResult_ret : (rdtempResult s).ret = statusCode (rdtempResult s).sf := rfl

/-- The two flags of `UPDATE` are equal, so it returns either of them. -/
theorem updateResult_ret_eq_sf : (updateResult s).ret = statusCode (updateResult s).sf := by
  rw [updateResult_ret, updateResult_ef_eq_sf, Bool.or_self]

theorem updateResult_ret_eq_ef : (updateResult s).ret = statusCode (updateResult s).ef := by
  rw [updateResult_ret_eq_sf, updateResult_ef_eq_sf]

/-! ### A stage's fault in the operations that contain the stage -/

/-- `SensorFault` in any operation that leaves `T` and `SF` as `RDTEMP` does and returns `SF` (60_exceptions.md R150). -/
theorem sensorFault_of_agrees_with_rdtemp {s t : State} (hsf : t.sf = (rdtempResult s).sf)
    (hret : t.ret = statusCode t.sf) (ht : t.t = (rdtempResult s).t) :
    (t.sf = true ↔ SensorFaulty (rawReading s.sensorPort) s.statusPort)
      ∧ (t.ret = 1#1 ↔ SensorFaulty (rawReading s.sensorPort) s.statusPort)
      ∧ (SensorFaulty (rawReading s.sensorPort) s.statusPort → t.t.mag = 0#16 ∧ t.t.unit = .error) := by
  have hflag := rdtempResult_sf_eq_true_iff s
  rw [← hsf] at hflag
  refine ⟨hflag, ?_, fun hfault => ?_⟩
  · rw [hret, statusCode_eq_one_iff, hflag]
  · rw [ht, rdtempResult_of_faulty s hfault]
    exact ⟨rfl, rfl⟩

/-- `EncodingRangeFault` in any operation whose `EF` and `PAT` are the encoder's for the Temperature it leaves in `T`, and
which returns `EF` (60_exceptions.md R151). -/
theorem encodingRangeFault_of_encoder_flag {t : State} (hef : t.ef = decide (Rejected t.t))
    (hret : t.ret = statusCode t.ef) (hpat : t.pat = if Rejected t.t then errPattern else patternOf t.t) :
    (t.ef = true ↔ Rejected t.t) ∧ (t.ret = 1#1 ↔ Rejected t.t) ∧ (Rejected t.t → t.pat = errPattern) := by
  have hflag : t.ef = true ↔ Rejected t.t := by rw [hef, decide_eq_true_iff]
  refine ⟨hflag, ?_, fun hrej => ?_⟩
  · rw [hret, statusCode_eq_one_iff, hflag]
  · rw [hpat, if_pos hrej]

/-! ### The obligations -/

/-- Settles O45: `UPDATE` leaves `T` and `SF` as `RDTEMP` does, and both return `SF`, `UPDATE` because its two flags are
equal. -/
theorem sensorFaultCauseAndRecovery : Obligations.SensorFaultCauseAndRecovery := by
  rintro i s (rfl | rfl)
  · exact ⟨_, exec_rdtemp s, sensorFault_of_agrees_with_rdtemp rfl (rdtempResult_ret s) rfl⟩
  · exact ⟨_, exec_update s,
      sensorFault_of_agrees_with_rdtemp (updateResult_sf s) (updateResult_ret_eq_sf s) (updateResult_t s)⟩

/-- Settles O46: `ENCODE` and `UPDATE` both run the encoder stage on the Temperature they leave in `T`, which for `ENCODE`
is its operand, and both return `EF`. -/
theorem encodingRangeFaultCauseAndRecovery : Obligations.EncodingRangeFaultCauseAndRecovery := by
  rintro i s (⟨temp, rfl⟩ | rfl)
  · have ht := encodeResult_t s temp
    obtain ⟨hflag, hstatus, herr⟩ := encodingRangeFault_of_encoder_flag (t := encodeResult temp s)
      (by rw [encodeResult_ef, ht]) (encodeResult_ret s temp) (by rw [encodeResult_pat, ht])
    exact ⟨_, exec_encode temp s, hflag, hstatus, herr, fun _ h => ht.trans (Instr.encode.inj h)⟩
  · obtain ⟨hflag, hstatus, herr⟩ := encodingRangeFault_of_encoder_flag (updateResult_ef s) (updateResult_ret_eq_ef s)
      (updateResult_pat s)
    exact ⟨_, exec_update s, hflag, hstatus, herr, fun _ h => nomatch h⟩

end Sys2Proof.Machine

/-!
PROOFS. One step by the action that comes next (70_reset_and_hazards.md R170, R177): a reset, and an invocation
while the block is idle or busy.
-/

namespace Sys2Proof.Machine

variable {s : State} {rest : List EnvAction}

/-- Every operation terminates in a next state: no arm of `exec` stops. -/
theorem exec_eq_next (i : Instr) (s : State) : ∃ t, exec i s = .next t := by
  cases i with
  | nop => exact ⟨_, rfl⟩
  | rdtemp => exact ⟨_, exec_rdtemp s⟩
  | encode temp => exact ⟨_, exec_encode temp s⟩
  | update => exact ⟨_, exec_update s⟩

theorem step_of_script_cons {a : EnvAction} (h : s.script = a :: rest) : step s = act a (setScript rest s) := by
  rw [step, nextAction_cons s h]

theorem step_reset (h : s.script = .reset :: rest) : step s = .next (applyReset (setScript rest s)) :=
  step_of_script_cons h

/-! ### Invocation -/

section Invoke

variable {cmd : Cmd}

theorem step_invoke_of_idle (h : s.script = .invoke cmd :: rest) (hidle : s.phase = .idle) :
    step s = exec (decode cmd) (setScript rest s) :=
  (step_of_script_cons h).trans (if_pos ((canInvoke_iff (setScript rest s)).2 hidle))

theorem step_invoke_of_busy (h : s.script = .invoke cmd :: rest) (hbusy : s.phase ≠ .idle) :
    step s = .refused .invokedWhileBusy :=
  (step_of_script_cons h).trans (if_neg (mt (canInvoke_iff (setScript rest s)).1 hbusy))

end Invoke

/-! ### The obligations -/

/-- Settles O10: at an idle block the step is an operation's, which answers a next state; a busy one refuses. -/
theorem invocationOnlyWhenIdle : Obligations.InvocationOnlyWhenIdle := by
  intro s cmd rest h
  refine ⟨fun hidle => ?_, step_invoke_of_busy h⟩
  obtain ⟨t, ht⟩ := exec_eq_next (decode cmd) (setScript rest s)
  exact ⟨t, (step_invoke_of_idle h hidle).trans ht⟩

/-- Settles O12: the step is `applyReset` on the state without that action, and `applyReset` leaves the three ports. -/
theorem resetClearsSequencerAndFlags : Obligations.ResetClearsSequencerAndFlags := by
  intro s rest h
  exact ⟨applyReset (setScript rest s), step_reset h, by simp⟩

end Sys2Proof.Machine

/-!
PROOFS. The round trips of the command word and the words of host script lines (30_encoding.md sections 1, 2 and 8): the
encoder writes the fields that the decoder reads.
-/

namespace Sys2Proof

/-! ### The fields of an encoded word -/

theorem cmdOp_encodeCmd (i : Instr) : cmdOp (encodeCmd i) = i.op := by
  apply BitVec.eq_of_toNat_eq
  have hop := i.op.isLt
  have hoperand := i.operandBits.isLt
  rw [cmdOp_toNat, encodeCmd_toNat]
  omega

/-- The word of an `ENCODE` as a sum of its three fields (30_encoding.md R64). -/
theorem encodeCmd_encode_toNat (temp : Temperature) :
    (encodeCmd (.encode temp)).toNat = 0x80000 + temp.unit.code.toNat * 0x10000 + temp.mag.toNat := by
  have hop : (Instr.encode temp).op.toNat = 2 := rfl
  rw [encodeCmd_toNat, operandBits_encode_toNat, hop]
  omega

theorem cmdUnit_encodeCmd_encode (temp : Temperature) : cmdUnit (encodeCmd (.encode temp)) = temp.unit.code := by
  apply BitVec.eq_of_toNat_eq
  have hunit := temp.unit.code.isLt
  have hmag := temp.mag.isLt
  rw [cmdUnit_toNat, encodeCmd_encode_toNat]
  omega

theorem cmdMag_encodeCmd_encode (temp : Temperature) : cmdMag (encodeCmd (.encode temp)) = temp.mag := by
  apply BitVec.eq_of_toNat_eq
  have hmag := temp.mag.isLt
  rw [cmdMag_toNat, encodeCmd_encode_toNat]
  omega

/-- The operand of an `ENCODE` survives its word (30_encoding.md R61, R64). -/
theorem cmdTemperature_encodeCmd_encode (temp : Temperature) : cmdTemperature (encodeCmd (.encode temp)) = temp := by
  rw [cmdTemperature, cmdMag_encodeCmd_encode, cmdUnit_encodeCmd_encode, unitOfCode_code]

/-- Decoding inverts encoding: the code fixes every operation but `ENCODE`, whose operand the word holds in full. -/
theorem decode_encodeCmd (i : Instr) : decode (encodeCmd i) = i := by
  have hop : (decode (encodeCmd i)).op = i.op := by rw [decode_op, cmdOp_encodeCmd]
  by_cases hencode : i.op = 0b10#2
  · obtain ⟨temp, rfl⟩ := Instr.op_eq_encode_iff.1 hencode
    rw [decode_of_cmdOp_encode (cmdOp_encodeCmd _), cmdTemperature_encodeCmd_encode]
  · exact Instr.eq_of_op_eq hop (by rwa [hop])

/-! ### The word of a decoded operation -/

/-- An operation without an operand has zeros in bits 17:0 (30_encoding.md R63). -/
theorem encodeCmd_of_op_ne_encode {i : Instr} (h : i.op ≠ 0b10#2) : encodeCmd i = i.op ++ 0#18 := by
  cases i with
  | encode temp => exact absurd rfl h
  | _ => rfl

/-- Encoding the operand that an `ENCODE` word holds gives the word back. -/
theorem encodeCmd_encode_cmdTemperature {w : Cmd} (h : cmdOp w = 0b10#2) :
    encodeCmd (.encode (cmdTemperature w)) = w := by
  apply BitVec.eq_of_toNat_eq
  have hw := w.isLt
  have hop : w.toNat / 262144 % 4 = 2 := by rw [← cmdOp_toNat, h]; rfl
  rw [encodeCmd_encode_toNat, cmdTemperature, code_unitOfCode, cmdUnit_toNat, cmdMag_toNat]
  omega

/-! ### Integers as words -/

/-- A port line's integer is taken modulo `2^32` (30_encoding.md R76). -/
theorem toNat_ofInt_word (v : Int) : ((BitVec.ofInt 32 v : Word).toNat : Int) = v % 4294967296 := by
  rw [BitVec.toNat_ofInt]
  exact Int.toNat_of_nonneg (by omega)

/-- A value in the signed 32-bit range survives being put on a port. -/
theorem toInt_ofInt_word {v : Int} (lo : -2147483648 ≤ v) (hi : v < 2147483648) :
    (BitVec.ofInt 32 v : Word).toInt = v := by
  rw [BitVec.toInt_ofInt]
  exact Int.bmod_eq_of_le (by omega) (by omega)

/-! ### The obligations -/

/-- Settles O5: the encoder writes the code and the operand where the decoder reads them. -/
theorem decodeOfEncodeIsIdentity : Obligations.DecodeOfEncodeIsIdentity := decode_encodeCmd

/-- Settles O6: an `ENCODE` word holds nothing but what its operation keeps; any other operation keeps the code alone. -/
theorem encodeOfDecodeKeepsEveryReadBit : Obligations.EncodeOfDecodeKeepsEveryReadBit := by
  intro w
  have hmask := and_mask_eq_iff_decode_op w 0b10#2
  split
  case isTrue h =>
    have hop : cmdOp w = 0b10#2 := (decode_op w).symm.trans (hmask.1 h)
    rw [decode_of_cmdOp_encode hop, encodeCmd_encode_cmdTemperature hop]
  case isFalse h =>
    rw [encodeCmd_of_op_ne_encode (mt hmask.2 h), decode_op, and_mask_eq_append]

/-- Settles O7: an `ENCODE` line's word is a sum of its fields and decodes by the round trip; a port line's word is its
integer modulo `2^32`. -/
theorem scriptLinesAssembleToTheirWords : Obligations.ScriptLinesAssembleToTheirWords := by
  refine ⟨fun mag u lo hi => ?_, fun v lo _ => ?_, rfl, rfl, rfl⟩
  · refine ⟨_, _, rfl, ?_, decode_encodeCmd _, Machine.toInt_ofInt_mag lo hi⟩
    rw [encodeCmd_encode_toNat, BitVec.toNat_ofInt]
    rfl
  · exact ⟨_, rfl, rfl, toNat_ofInt_word v, toInt_ofInt_word lo⟩

/-- Settles O1: twelve closed words. -/
theorem decodeOfListedCommandWords : Obligations.DecodeOfListedCommandWords := by
  unfold Obligations.DecodeOfListedCommandWords
  decide

end Sys2Proof

/-!
PROOFS. What every operation leaves unchanged, and the states it passes through (10_state.md section 4,
42_formatter_update.md sections 2 and 4, 70_reset_and_hazards.md section 3): the fields that belong to the environment, the
latches, `phase` and the display, part by part of each operation.
-/

namespace Sys2Proof.Machine

variable (s : State)

/-! ### The state an operation leaves -/

/-- The state each operation leaves. -/
def operationResult (i : Instr) (s : State) : State :=
  match i with
  | .nop => returnStatus false (startOperation s)
  | .rdtemp => rdtempResult s
  | .encode temp => encodeResult temp s
  | .update => updateResult s

theorem exec_eq_operationResult (i : Instr) : exec i s = .next (operationResult i s) := by
  cases i <;> rfl

theorem eq_operationResult_of_exec {i : Instr} {s t : State} (h : exec i s = .next t) : t = operationResult i s := by
  rw [exec_eq_operationResult] at h
  exact (Host.Outcome.next.inj h).symm

/-! ### The fields that belong to the environment -/

/-- The fields that only the environment changes: the input ports, and the model's own `script` and `draws` (log 1,
log 2). -/
def State.environment (s : State) : Word × Word × List EnvAction × Nat :=
  (s.sensorPort, s.statusPort, s.script, s.draws)

theorem environment_eq_iff {s t : State} :
    t.environment = s.environment
      ↔ t.sensorPort = s.sensorPort ∧ t.statusPort = s.statusPort ∧ t.script = s.script ∧ t.draws = s.draws := by
  simp only [State.environment, Prod.mk.injEq]

@[simp] theorem sensorStage_environment : (sensorStage s).environment = s.environment := by
  obtain ⟨_, _, h⟩ := sensorStage_shape s
  rw [h]; rfl

@[simp] theorem encodeStage_environment : (encodeStage s).environment = s.environment := by
  obtain ⟨_, _, h⟩ := encodeStage_shape s
  rw [h]; rfl

@[simp] theorem reportSensor_environment : (reportSensor s).environment = s.environment := by
  unfold reportSensor; split <;> rfl

@[simp] theorem reportEncoder_environment : (reportEncoder s).environment = s.environment := by
  unfold reportEncoder; split <;> rfl

@[simp] theorem commit_environment : (commit s).environment = s.environment := by
  unfold commit; split <;> rfl

@[simp] theorem finishCycle_environment : (finishCycle s).environment = s.environment := rfl
@[simp] theorem finishRdtemp_environment : (finishRdtemp s).environment = s.environment := rfl
@[simp] theorem finishEncode_environment : (finishEncode s).environment = s.environment := rfl
@[simp] theorem startOperation_environment : (startOperation s).environment = s.environment := rfl
@[simp] theorem setTemp_environment (x : Temperature) : (setTemp x s).environment = s.environment := rfl
@[simp] theorem beginCycle_environment : (beginCycle s).environment = s.environment := rfl

theorem updateResult_environment : (updateResult s).environment = s.environment := by
  simp [updateResult, cycle]

/-- No operation changes what belongs to the environment (20_memory.md R40, 10_state.md R20, R21). -/
theorem operationResult_environment (i : Instr) : (operationResult i s).environment = s.environment := by
  cases i with
  | nop => rfl
  | rdtemp => simp [operationResult, rdtempResult]
  | encode temp => simp [operationResult, encodeResult]
  | update => exact updateResult_environment s

/-! ### Latches and flags -/

@[simp] theorem sensorStage_pat : (sensorStage s).pat = s.pat := by
  obtain ⟨_, _, h⟩ := sensorStage_shape s
  rw [h]

@[simp] theorem sensorStage_ef : (sensorStage s).ef = s.ef := by
  obtain ⟨_, _, h⟩ := sensorStage_shape s
  rw [h]

@[simp] theorem finishRdtemp_pat : (finishRdtemp s).pat = s.pat := rfl
@[simp] theorem finishRdtemp_ef : (finishRdtemp s).ef = s.ef := rfl
@[simp] theorem finishEncode_sf : (finishEncode s).sf = s.sf := rfl

theorem rdtempResult_pat : (rdtempResult s).pat = s.pat := by
  simp [rdtempResult]

theorem rdtempResult_ef : (rdtempResult s).ef = s.ef := by
  simp [rdtempResult]

theorem encodeResult_sf (temp : Temperature) : (encodeResult temp s).sf = s.sf := by
  simp [encodeResult]

/-! ### The sequencer -/

@[simp] theorem sensorStage_phase : (sensorStage s).phase = .sRead := by
  obtain ⟨_, _, h⟩ := sensorStage_shape s
  rw [h]

@[simp] theorem encodeStage_phase : (encodeStage s).phase = .sEnc := by
  obtain ⟨_, _, h⟩ := encodeStage_shape s
  rw [h]

@[simp] theorem reportSensor_phase : (reportSensor s).phase = s.phase := by
  unfold reportSensor; split <;> rfl

@[simp] theorem reportEncoder_phase : (reportEncoder s).phase = s.phase := by
  unfold reportEncoder; split <;> rfl

@[simp] theorem commit_phase : (commit s).phase = .sCommit := by
  unfold commit; split <;> rfl

@[simp] theorem finishCycle_phase : (finishCycle s).phase = .idle := rfl
@[simp] theorem finishRdtemp_phase : (finishRdtemp s).phase = .idle := rfl
@[simp] theorem finishEncode_phase : (finishEncode s).phase = .idle := rfl

/-- Every operation returns idle; `NOP` does so by leaving `phase` as it was (10_state.md R31, log 23). -/
theorem operationResult_phase (i : Instr) (h : s.phase = .idle) : (operationResult i s).phase = .idle := by
  cases i with
  | nop => exact h
  | rdtemp => rfl
  | encode temp => rfl
  | update => rfl

/-! ### The display inside a cycle -/

@[simp] theorem beginCycle_displayPort : (beginCycle s).displayPort = s.displayPort := rfl

@[simp] theorem encodeStage_displayPort : (encodeStage s).displayPort = s.displayPort :=
  (writes_nil.1 (encodeStage_writes s)).2.2

/-- What the display shows at the six points of a cycle that finds `before` in it and leaves these flags and this
pattern: each stage's report and the commit are the only places where it can change (70_reset_and_hazards.md R178). -/
def displaysOfCycle (before : Word) (sf ef : Bool) (pat : Word) : List Word :=
  let afterSensor := if sf then errPattern else before
  let afterEncoder := if ef then errPattern else afterSensor
  let afterCommit := if sf || ef then afterEncoder else pat
  [before, afterSensor, afterSensor, afterEncoder, afterCommit, afterCommit]

theorem observe_update_displayPort :
    (observe .update s).map (·.displayPort)
      = displaysOfCycle s.displayPort (updateResult s).sf (updateResult s).ef (updateResult s).pat := by
  have hsf : (updateResult s).sf = (sensorStage (beginCycle s)).sf :=
    cycle_sf s sensorStage encodeStage encodeStage_sf
  have hef : (updateResult s).ef = (encodeStage (reportSensor (sensorStage (beginCycle s)))).ef :=
    cycle_ef s sensorStage encodeStage
  have hpat : (updateResult s).pat = (encodeStage (reportSensor (sensorStage (beginCycle s)))).pat :=
    cycle_pat s sensorStage encodeStage
  simp [observe, cycleStates, reportSensor_displayPort, reportEncoder_displayPort, commit_displayPort, displaysOfCycle,
    hsf, hef, hpat]

/-! ### The obligations -/

/-- Settles O37: no part of an operation touches the environment's fields; the sensor stage leaves `PAT` and `EF`, the
encoder stage `SF` and `T`, and only a cycle writes. -/
theorem operationsLeaveTheRestUnchanged : Obligations.OperationsLeaveTheRestUnchanged := by
  intro i s t h
  obtain ⟨hsensor, hstatus, hscript, hdraws⟩ :=
    environment_eq_iff.1 (eq_operationResult_of_exec h ▸ operationResult_environment s i)
  refine ⟨hsensor, hstatus, hscript, hdraws, ?_, ?_, ?_, fun hi => ?_⟩
  · rintro rfl
    rw [eq_operationResult_of_exec h]
    exact ⟨rfl, rfl, rfl, rfl, rfl⟩
  · rintro rfl
    rw [eq_operationResult_of_exec h]
    exact ⟨rdtempResult_pat s, rdtempResult_ef s⟩
  · rintro temp rfl
    rw [eq_operationResult_of_exec h]
    exact ⟨encodeResult_sf s temp, encodeResult_t s temp⟩
  · obtain ⟨t', h', htrace, hdisplay⟩ := exec_writes_nothing s i hi
    obtain rfl : t = t' := Host.Outcome.next.inj (h.symm.trans h')
    exact ⟨hdisplay, htrace⟩

/-- Settles O40: each stage and the commit enter their own phase, the reports leave it, and every return is idle. -/
theorem phaseSequenceOfEachOperation : Obligations.PhaseSequenceOfEachOperation := by
  intro s hidle
  refine ⟨by simp [observe, hidle], by simp [observe], fun temp => by simp [observe], by simp [observe, cycleStates],
    fun i t h => ?_⟩
  rw [eq_operationResult_of_exec h]
  exact operationResult_phase s i hidle

/-- Settles O41: the last state listed for each operation is the one its meaning leaves. -/
theorem observedStatesEndInTheResult : Obligations.ObservedStatesEndInTheResult := by
  intro i s
  refine ⟨operationResult i s, exec_eq_operationResult s i, ?_⟩
  cases i <;> rfl

/-- Settles O42: the two flags of `UPDATE` are equal and give the status, so either only the commit writes or both reports
do. -/
theorem displaySeenDuringACycle : Obligations.DisplaySeenDuringACycle := by
  intro s
  have hef := updateResult_ef_eq_sf s
  refine ⟨_, exec_update s, fun hret => ?_, fun hret => ?_⟩
  · rw [updateResult_ret_eq_sf, statusCode_eq_zero_iff] at hret
    rw [observe_update_displayPort, hef, hret]
    rfl
  · rw [updateResult_ret_eq_sf, statusCode_eq_one_iff] at hret
    rw [observe_update_displayPort, hef, hret]
    rfl

end Sys2Proof.Machine

/-!
PROOFS. The shape of the conversion (40_sensor_reader.md section 3, 30_encoding.md section 6): the Celsius value as one
floor division, the conversion to Fahrenheit as a strictly increasing map, and what `RDTEMP` answers on a trusted reading.
-/

namespace Sys2Proof.Machine

/-! ### The Celsius value -/

/-- Rounding the floor up on its remainder is the floor of the reading half a step higher (40_sensor_reader.md R83). -/
theorem celsiusOf_eq_div (v : Int) : celsiusOf v = (v + 16) / 32 - 450 := by
  rw [celsiusOf_eq]
  split <;> omega

theorem celsiusOf_mono {v w : Int} (h : v ≤ w) : celsiusOf v ≤ celsiusOf w := by
  rw [celsiusOf_eq_div, celsiusOf_eq_div]
  omega

/-- The 32 readings nearest to a Celsius value are the ones that give it (40_sensor_reader.md R89). -/
theorem celsiusOf_eq_iff (v k : Int) :
    celsiusOf v = k ↔ 32 * (k + 450) - 16 ≤ v ∧ v ≤ 32 * (k + 450) + 15 := by
  rw [celsiusOf_eq_div]
  omega

/-- The floor of a reading below `2^15` is bits 14:5 of its word and the rounding adds bit 4 (30_encoding.md R74). -/
theorem celsiusOf_eq_bits {w : Word} (lo : 0 ≤ w.toInt) (hi : w.toInt < 32768) :
    celsiusOf w.toInt = ((w.extractLsb' 5 10).toNat : Int) + ((w.extractLsb' 4 1).toNat : Int) - 450 := by
  rw [BitVec.toInt_eq_toNat_of_lt (BitVec.toInt_pos_iff.1 lo)] at hi ⊢
  rw [celsiusOf_eq_div, BitVec.extractLsb'_toNat, BitVec.extractLsb'_toNat, Nat.shiftRight_eq_div_pow,
    Nat.shiftRight_eq_div_pow]
  omega

/-! ### The conversion to Fahrenheit -/

theorem fahrenheitOf_strictMono : StrictMono fahrenheitOf := by
  intro c d h
  rw [fahrenheitOf_eq, fahrenheitOf_eq]
  split <;> split <;> omega

/-! ### What `RDTEMP` answers -/

theorem rdtempResult_ret_eq_one_iff (s : State) :
    (rdtempResult s).ret = 1#1 ↔ SensorFaulty (rawReading s.sensorPort) s.statusPort := by
  rw [rdtempResult_ret, statusCode_eq_one_iff, rdtempResult_sf_eq_true_iff]

theorem rdtempResult_ret_eq_zero_iff (s : State) :
    (rdtempResult s).ret = 0#1 ↔ Trusted s.sensorPort s.statusPort := by
  rw [rdtempResult_ret, statusCode_eq_zero_iff, ← Bool.not_eq_true, rdtempResult_sf_eq_true_iff,
    not_sensorFaulty_iff_trusted]

section Trusted

variable {s : State} (h : Trusted s.sensorPort s.statusPort)
include h

/-- A trusted reading's Celsius value is in the range the 16-bit magnitude holds (40_sensor_reader.md R87). -/
theorem celsiusOf_mem_range_of_trusted :
    -450 ≤ celsiusOf s.sensorPort.toInt ∧ celsiusOf s.sensorPort.toInt ≤ 450 :=
  celsiusOf_mem_range h.1 h.2.1

theorem rdtempResult_t_of_trusted :
    (rdtempResult s).t = selectUnit (celsiusOf s.sensorPort.toInt) s.statusPort := by
  rw [rdtempResult_of_trusted s (not_sensorFaulty_iff_trusted.2 h)]
  rfl

/-- Without status bit 5 the magnitude is the Celsius value (40_sensor_reader.md R84). -/
theorem rdtempResult_mag_of_celsius (hmode : s.statusPort.getLsbD 5 = false) :
    (rdtempResult s).t.mag.toInt = celsiusOf s.sensorPort.toInt := by
  obtain ⟨lo, hi⟩ := celsiusOf_mem_range_of_trusted h
  rw [rdtempResult_t_of_trusted h]
  exact (selectUnit_of_not_fMode lo hi (ne_true_of_eq_false hmode)).1

/-- With status bit 5 the magnitude is the Fahrenheit value (40_sensor_reader.md R84). -/
theorem rdtempResult_mag_of_fahrenheit (hmode : s.statusPort.getLsbD 5 = true) :
    (rdtempResult s).t.mag.toInt = fahrenheitOf (celsiusOf s.sensorPort.toInt) := by
  obtain ⟨lo, hi⟩ := celsiusOf_mem_range_of_trusted h
  rw [rdtempResult_t_of_trusted h]
  exact (selectUnit_of_fMode lo hi hmode).1

/-- The Temperature of a trusted reading is displayable (40_sensor_reader.md R90). -/
theorem rdtempResult_displayable_of_trusted : Displayable (rdtempResult s).t := by
  obtain ⟨lo, hi⟩ := celsiusOf_mem_range_of_trusted h
  rw [rdtempResult_t_of_trusted h]
  exact selectUnit_displayable lo hi

end Trusted

/-- A displayable Temperature has one of the two named units. -/
theorem unit_ne_unrecognised_of_displayable {temp : Temperature} (h : Displayable temp) : temp.unit ≠ .unrecognised := by
  obtain ⟨hunit, -⟩ | ⟨hunit, -⟩ := h <;> simp [hunit]

/-! ### The obligations -/

/-- Settles O15: the answer is the Celsius value, which is that floor division. -/
theorem celsiusIsTheNearestTenth : Obligations.CelsiusIsTheNearestTenth := fun s h hmode =>
  ⟨_, exec_rdtemp s, (rdtempResult_mag_of_celsius h hmode).trans (celsiusOf_eq_div _)⟩

/-- Settles O16: a trusted reading is below `2^15`, so its bits 14:4 give the Celsius value. -/
theorem celsiusFromTheBitsOfThePort : Obligations.CelsiusFromTheBitsOfThePort := by
  intro s h hmode
  obtain ⟨hlo, hhi, -⟩ := id h
  exact ⟨_, exec_rdtemp s, (rdtempResult_mag_of_celsius h hmode).trans (celsiusOf_eq_bits hlo (by omega))⟩

/-- Settles O17: the Celsius value is non-decreasing in the reading and the Fahrenheit value increasing in it. -/
theorem conversionIsMonotone : Obligations.ConversionIsMonotone := by
  intro s1 s2 h1 h2 hmode hle
  have hcelsius := celsiusOf_mono hle
  refine ⟨_, _, exec_rdtemp s1, exec_rdtemp s2, ?_⟩
  cases hmode2 : s2.statusPort.getLsbD 5
  · rwa [rdtempResult_mag_of_celsius h1 (hmode.trans hmode2), rdtempResult_mag_of_celsius h2 hmode2]
  · rw [rdtempResult_mag_of_fahrenheit h1 (hmode.trans hmode2), rdtempResult_mag_of_fahrenheit h2 hmode2]
    exact fahrenheitOf_strictMono.monotone hcelsius

/-- Settles O18: each value comes from the 32 readings nearest to it, and the trusted range cuts off the ends. -/
theorem readingsOfEachCelsiusValue : Obligations.ReadingsOfEachCelsiusValue := by
  intro s h hmode
  refine ⟨_, exec_rdtemp s, ?_⟩
  obtain ⟨hlo, hhi, -⟩ := id h
  rw [rdtempResult_mag_of_celsius h hmode]
  refine ⟨?_, ?_, fun k _ _ => celsiusOf_eq_iff _ k⟩
  all_goals
    rw [celsiusOf_eq_iff]
    omega

/-- Settles O19: a strictly increasing map is injective; the range is R87's. -/
theorem fahrenheitKeepsCelsiusApart : Obligations.FahrenheitKeepsCelsiusApart := fun _ _ lo hi _ _ =>
  ⟨fun heq => fahrenheitOf_strictMono.injective heq, fahrenheitOf_mem_range lo hi⟩

/-- Settles O20: the status tells a trusted reading, whose Temperature is displayable, from a faulty one, which leaves the
sentinel. -/
theorem rdtempAnswersInRange : Obligations.RdtempAnswersInRange := by
  intro s
  refine ⟨_, exec_rdtemp s, fun hret => ?_, fun hret => ?_, ?_⟩
  · exact rdtempResult_displayable_of_trusted ((rdtempResult_ret_eq_zero_iff s).1 hret)
  · rw [rdtempResult_of_faulty s ((rdtempResult_ret_eq_one_iff s).1 hret)]
  · by_cases hfault : SensorFaulty (rawReading s.sensorPort) s.statusPort
    · rw [rdtempResult_of_faulty s hfault]
      exact nofun
    · exact unit_ne_unrecognised_of_displayable
        (rdtempResult_displayable_of_trusted (not_sensorFaulty_iff_trusted.1 hfault))

end Sys2Proof.Machine

/-!
PROOFS. The placement of glyphs by magnitude (41_digit_glyph_encoder.md sections 2 and 4) and the shape of what `ENCODE`
produces (42_formatter_update.md section 1): each field's value in each class of magnitudes, where the minus stands, and
how far a pattern determines the magnitude it shows.
-/

namespace Sys2Proof.Machine

/-! ### The four glyphs of a magnitude -/

/-- The glyph of each field of the pattern of a magnitude, named by its digit (41_digit_glyph_encoder.md R105). -/
def hundredsGlyph (m : Int) : Glyph := placeHundreds (isNegative m) (digitsOf (absMagnitude m))

/-- See `hundredsGlyph` (R106). -/
def tensGlyph (m : Int) : Glyph := placeTens placementPolicy (isNegative m) (digitsOf (absMagnitude m))

/-- See `hundredsGlyph` (R107). -/
def onesGlyph (m : Int) : Glyph := placeOnes placementPolicy (isNegative m) (digitsOf (absMagnitude m))

/-- See `hundredsGlyph` (R108). -/
def tenthsGlyph (m : Int) : Glyph := placeTenths (digitsOf (absMagnitude m))

section Fields

variable (temp : Temperature)

theorem patternOf_eq_compose_glyphs :
    patternOf temp = compose temp.unit (hundredsGlyph temp.mag.toInt) (tensGlyph temp.mag.toInt)
      (onesGlyph temp.mag.toInt) (tenthsGlyph temp.mag.toInt) :=
  patternOf_eq_compose temp

theorem fieldH_patternOf : fieldH (patternOf temp) = hundredsGlyph temp.mag.toInt := by
  rw [patternOf_eq_compose_glyphs, fieldH_compose]

theorem fieldT_patternOf : fieldT (patternOf temp) = tensGlyph temp.mag.toInt := by
  rw [patternOf_eq_compose_glyphs, fieldT_compose]

theorem fieldO_patternOf : fieldO (patternOf temp) = onesGlyph temp.mag.toInt := by
  rw [patternOf_eq_compose_glyphs, fieldO_compose]

theorem fieldF_patternOf : fieldF (patternOf temp) = tenthsGlyph temp.mag.toInt := by
  rw [patternOf_eq_compose_glyphs, fieldF_compose]

end Fields

/-! ### The placement by magnitude -/

section Classes

variable {m : Int}

theorem tenthsGlyph_eq (m : Int) : tenthsGlyph m = glyph (Fin.ofNat 10 (m.natAbs % 10)) := placeTenths_digitsOf m

/-- 1000 and above: three digits before the tenths, no sign. -/
theorem glyphs_of_ge_thousand (lo : 1000 ≤ m.natAbs) (hi : m.natAbs < 2000) :
    hundredsGlyph m = glyph (Fin.ofNat 10 1) ∧ tensGlyph m = glyph (Fin.ofNat 10 (m.natAbs / 100 % 10))
      ∧ onesGlyph m = glyph (Fin.ofNat 10 (m.natAbs / 10 % 10)) := by
  have hh : m.natAbs / 1000 % 10 = 1 := by omega
  rw [hundredsGlyph, tensGlyph, onesGlyph, placeHundreds_digitsOf, placeTens_digitsOf, placeOnes_digitsOf, hh]
  refine ⟨by simp, ?_, ?_⟩
  · by_cases ht : m.natAbs / 100 % 10 = 0 <;> simp [ht]
  · by_cases ho : m.natAbs / 10 % 10 = 0 <;> simp [ho]

/-- 100..999: the sign in the hundreds field, two digits before the tenths. -/
theorem glyphs_of_hundreds (lo : 100 ≤ m.natAbs) (hi : m.natAbs ≤ 999) :
    hundredsGlyph m = (if m < 0 then minusGlyph else blankGlyph)
      ∧ tensGlyph m = glyph (Fin.ofNat 10 (m.natAbs / 100))
      ∧ onesGlyph m = glyph (Fin.ofNat 10 (m.natAbs / 10 % 10)) := by
  have hh : m.natAbs / 1000 % 10 = 0 := by omega
  have ht : m.natAbs / 100 % 10 = m.natAbs / 100 := by omega
  rw [hundredsGlyph, tensGlyph, onesGlyph, placeHundreds_digitsOf, placeTens_digitsOf, placeOnes_digitsOf, hh, ht]
  refine ⟨by simp [lo.not_gt], by simp [lo.not_gt], ?_⟩
  by_cases ho : m.natAbs / 10 % 10 = 0 <;> simp [ho, lo.not_gt]

/-- 10..99: the sign in the tens field, one digit before the tenths (log 9). -/
theorem glyphs_of_tens (lo : 10 ≤ m.natAbs) (hi : m.natAbs ≤ 99) :
    hundredsGlyph m = blankGlyph ∧ tensGlyph m = (if m < 0 then minusGlyph else blankGlyph)
      ∧ onesGlyph m = glyph (Fin.ofNat 10 (m.natAbs / 10)) := by
  have hh : m.natAbs / 1000 % 10 = 0 := by omega
  have ht : m.natAbs / 100 % 10 = 0 := by omega
  have ho : m.natAbs / 10 % 10 = m.natAbs / 10 := by omega
  rw [hundredsGlyph, tensGlyph, onesGlyph, placeHundreds_digitsOf, placeTens_digitsOf, placeOnes_digitsOf, hh, ht, ho]
  exact ⟨by simp, by simp [lo.not_gt], by simp [lo.not_gt]⟩

/-- 1..9: the minus in the ones field whatever the sign (log 11). -/
theorem glyphs_of_ones (lo : 1 ≤ m.natAbs) (hi : m.natAbs ≤ 9) :
    hundredsGlyph m = blankGlyph ∧ tensGlyph m = blankGlyph ∧ onesGlyph m = minusGlyph := by
  have hh : m.natAbs / 1000 % 10 = 0 := by omega
  have ht : m.natAbs / 100 % 10 = 0 := by omega
  have ho : m.natAbs / 10 % 10 = 0 := by omega
  have hf : m.natAbs % 10 ≠ 0 := by omega
  rw [hundredsGlyph, tensGlyph, onesGlyph, placeHundreds_digitsOf, placeTens_digitsOf, placeOnes_digitsOf, hh, ht, ho]
  exact ⟨by simp, by simp, by simp [hf]⟩

/-- 0: blanks before the tenths (log 10). -/
theorem glyphs_of_zero (h : m.natAbs = 0) :
    hundredsGlyph m = blankGlyph ∧ tensGlyph m = blankGlyph ∧ onesGlyph m = blankGlyph := by
  obtain rfl : m = 0 := Int.natAbs_eq_zero.1 h
  decide

end Classes

/-! ### Where the minus stands -/

theorem blank_ne_minus : blankGlyph ≠ minusGlyph := by decide

theorem hundredsGlyph_eq_minus_iff {m : Int} (lo : -490 ≤ m) :
    hundredsGlyph m = minusGlyph ↔ m < 0 ∧ 100 ≤ m.natAbs := by
  rw [hundredsGlyph, placeHundreds_digitsOf]
  split_ifs <;> simp only [glyph_ne_minus, blank_ne_minus, true_iff, false_iff] <;> omega

theorem tensGlyph_eq_minus_iff {m : Int} (lo : -490 ≤ m) :
    tensGlyph m = minusGlyph ↔ m < 0 ∧ 10 ≤ m.natAbs ∧ m.natAbs < 100 := by
  rw [tensGlyph, placeTens_digitsOf]
  split_ifs <;> simp only [glyph_ne_minus, blank_ne_minus, true_iff, false_iff] <;> omega

theorem onesGlyph_eq_minus_iff {m : Int} (lo : -490 ≤ m) (hi : m ≤ 1130) :
    onesGlyph m = minusGlyph ↔ 1 ≤ m.natAbs ∧ m.natAbs ≤ 9 := by
  rw [onesGlyph, placeOnes_digitsOf]
  split_ifs <;> simp only [glyph_ne_minus, blank_ne_minus, true_iff, false_iff] <;> omega

theorem tenthsGlyph_ne_minus (m : Int) : tenthsGlyph m ≠ minusGlyph := glyph_ne_minus _

/-- From 10 on the sign of a magnitude is seen in the hundreds and tens fields. -/
theorem neg_iff_minus_shown {m : Int} (lo : -490 ≤ m) (h : 10 ≤ m.natAbs) :
    m < 0 ↔ hundredsGlyph m = minusGlyph ∨ tensGlyph m = minusGlyph := by
  rw [hundredsGlyph_eq_minus_iff lo, tensGlyph_eq_minus_iff lo]
  omega

/-! ### The digits a pattern shows -/

/-- The digit a field shows; the minus and the blank show none, which counts as 0. -/
noncomputable def digitShown : Glyph → Fin 10 := Function.extend glyph id (fun _ => 0)

theorem digitShown_glyph (d : Fin 10) : digitShown (glyph d) = d := glyph_injective.extend_apply id _ d

theorem digitShown_minus : digitShown minusGlyph = 0 :=
  Function.extend_apply' _ _ _ fun ⟨d, h⟩ => glyph_ne_minus d h

theorem digitShown_blank : digitShown blankGlyph = 0 :=
  Function.extend_apply' _ _ _ fun ⟨d, h⟩ => glyph_ne_blank d h

section Shown

variable (neg : Bool) (d : Digits)

theorem digitShown_placeHundreds : digitShown (placeHundreds neg d) = d.h := by
  unfold placeHundreds
  split_ifs <;> simp_all [digitShown_glyph, digitShown_minus, digitShown_blank]

theorem digitShown_placeTens : digitShown (placeTens placementPolicy neg d) = d.t := by
  unfold placeTens placementPolicy
  split_ifs <;> simp_all [digitShown_glyph, digitShown_minus, digitShown_blank]

theorem digitShown_placeOnes : digitShown (placeOnes placementPolicy neg d) = d.o := by
  unfold placeOnes placementPolicy onesSign
  split_ifs <;> simp_all [digitShown_glyph, digitShown_minus, digitShown_blank]

end Shown

/-- Below ten thousand the four digits are the number (41_digit_glyph_encoder.md R102). -/
theorem digitsOf_recompose {a : Nat} (h : a < 10000) :
    1000 * (digitsOf a).h.val + 100 * (digitsOf a).t.val + 10 * (digitsOf a).o.val + (digitsOf a).f.val = a := by
  rw [digitsOf_h_val, digitsOf_t_val, digitsOf_o_val, digitsOf_f_val]
  omega

/-- A pattern shows the digits of its magnitude in its four fields, so it determines the absolute value. -/
theorem natAbs_eq_of_patternOf_eq {temp temp' : Temperature} (h : temp.mag.toInt.natAbs < 10000)
    (h' : temp'.mag.toInt.natAbs < 10000) (hpat : patternOf temp = patternOf temp') :
    temp.mag.toInt.natAbs = temp'.mag.toInt.natAbs := by
  have hH := congrArg (fun w => digitShown (fieldH w)) hpat
  have hT := congrArg (fun w => digitShown (fieldT w)) hpat
  have hO := congrArg (fun w => digitShown (fieldO w)) hpat
  have hF := congrArg (fun w => digitShown (fieldF w)) hpat
  simp only [fieldH_patternOf, fieldT_patternOf, fieldO_patternOf, fieldF_patternOf, hundredsGlyph, tensGlyph, onesGlyph,
    tenthsGlyph, placeTenths, digitShown_placeHundreds, digitShown_placeTens, digitShown_placeOnes, digitShown_glyph,
    absMagnitude_eq_natAbs] at hH hT hO hF
  rw [← digitsOf_recompose h, ← digitsOf_recompose h', hH, hT, hO, hF]

/-! ### Displayable magnitudes -/

/-- Both displayable ranges lie in -490..1130 (10_state.md R28). -/
theorem mag_mem_range_of_displayable {temp : Temperature} (h : Displayable temp) :
    -490 ≤ temp.mag.toInt ∧ temp.mag.toInt ≤ 1130 := by
  obtain ⟨-, lo, hi⟩ | ⟨-, lo, hi⟩ := h <;> omega

theorem encodeResult_pat_of_displayable {temp : Temperature} (s : State) (h : Displayable temp) :
    (encodeResult temp s).pat = patternOf temp := by
  rw [encodeResult_pat, if_neg ((not_rejected_iff_displayable temp).2 h)]

theorem encodeResult_ef_eq_false_iff (temp : Temperature) (s : State) :
    (encodeResult temp s).ef = false ↔ Displayable temp := by
  rw [encodeResult_ef, decide_eq_false_iff_not, not_rejected_iff_displayable]

theorem encodeResult_ret_eq_zero_iff (temp : Temperature) (s : State) :
    (encodeResult temp s).ret = 0#1 ↔ Displayable temp := by
  rw [encodeResult_ret, statusCode_eq_zero_iff, encodeResult_ef_eq_false_iff]

theorem encodeResult_ret_eq_one_iff (temp : Temperature) (s : State) :
    (encodeResult temp s).ret = 1#1 ↔ Rejected temp := by
  rw [encodeResult_ret, statusCode_eq_one_iff, encodeResult_ef, decide_eq_true_iff]

/-! ### When two patterns coincide -/

section Coincide

variable {m n : Mag}

/-- Equal patterns show the same digits, and from 10 on the same sign: their magnitudes are equal, or opposite with the one
digit in the tenths (41_digit_glyph_encoder.md section 4, consequence 1). -/
theorem eq_or_near_zero_of_patternOf_eq {u : TempUnit} (hm : -490 ≤ m.toInt ∧ m.toInt ≤ 1130)
    (hn : -490 ≤ n.toInt ∧ n.toInt ≤ 1130)
    (hpat : patternOf { mag := m, unit := u } = patternOf { mag := n, unit := u }) :
    m = n ∨ (m.toInt = -n.toInt ∧ 1 ≤ m.toInt.natAbs ∧ m.toInt.natAbs ≤ 9) := by
  have hmlt : m.toInt.natAbs < 10000 := by omega
  have hnlt : n.toInt.natAbs < 10000 := by omega
  have habs : m.toInt.natAbs = n.toInt.natAbs :=
    natAbs_eq_of_patternOf_eq (temp := { mag := m, unit := u }) (temp' := { mag := n, unit := u }) hmlt hnlt hpat
  have hH : hundredsGlyph m.toInt = hundredsGlyph n.toInt := by
    simpa only [fieldH_patternOf] using congrArg fieldH hpat
  have hT : tensGlyph m.toInt = tensGlyph n.toInt := by
    simpa only [fieldT_patternOf] using congrArg fieldT hpat
  have hsign : 10 ≤ m.toInt.natAbs → (m.toInt < 0 ↔ n.toInt < 0) := fun h10 => by
    rw [neg_iff_minus_shown hm.1 h10, neg_iff_minus_shown hn.1 (habs ▸ h10), hH, hT]
  obtain heq | hopp := Int.natAbs_eq_natAbs_iff.1 habs
  · exact .inl (BitVec.toInt_inj.1 heq)
  · rw [← BitVec.toInt_inj]
    omega

/-- At 1..9 no field depends on the sign (log 11). -/
theorem patternOf_eq_of_near_zero (u : TempUnit) (habs : m.toInt.natAbs = n.toInt.natAbs) (lo : 1 ≤ m.toInt.natAbs)
    (hi : m.toInt.natAbs ≤ 9) : patternOf { mag := m, unit := u } = patternOf { mag := n, unit := u } := by
  obtain ⟨hHm, hTm, hOm⟩ := glyphs_of_ones lo hi
  obtain ⟨hHn, hTn, hOn⟩ := glyphs_of_ones (habs ▸ lo) (habs ▸ hi)
  rw [patternOf_eq_compose_glyphs, patternOf_eq_compose_glyphs, hHm, hTm, hOm, hHn, hTn, hOn, tenthsGlyph_eq,
    tenthsGlyph_eq, habs]

end Coincide

/-! ### The shape of a composed pattern -/

section Shape

variable (neg : Bool) (d : Digits)

theorem isPlaced_glyph (e : Fin 10) : IsPlaced (glyph e) := .inl ⟨e, rfl⟩
theorem isPlaced_minus : IsPlaced minusGlyph := .inr (.inl rfl)
theorem isPlaced_blank : IsPlaced blankGlyph := .inr (.inr rfl)

theorem isPlaced_placeHundreds : IsPlaced (placeHundreds neg d) := by
  unfold placeHundreds
  split_ifs
  exacts [isPlaced_glyph _, isPlaced_minus, isPlaced_blank]

theorem isPlaced_placeTens : IsPlaced (placeTens placementPolicy neg d) := by
  unfold placeTens
  split_ifs
  exacts [isPlaced_glyph _, isPlaced_minus, isPlaced_blank, isPlaced_glyph _, isPlaced_blank]

theorem isPlaced_placeOnes : IsPlaced (placeOnes placementPolicy neg d) := by
  unfold placeOnes
  split_ifs
  exacts [isPlaced_glyph _, isPlaced_minus, isPlaced_blank, isPlaced_glyph _]

end Shape

/-- The pattern of a displayable Temperature has the composed shape (42_formatter_update.md R133). -/
theorem patternOf_composed {temp : Temperature} (h : Displayable temp) : Composed (patternOf temp) where
  marker := compose_bit31 ..
  bit30 := compose_bit30 ..
  oneUnit := by
    rw [patternOf_eq_compose, compose_bit29, compose_bit28]
    obtain ⟨hunit, -⟩ | ⟨hunit, -⟩ := h <;> simp [hunit]
  tenths := fieldF_patternOf temp ▸ ⟨_, rfl⟩
  ones := fieldO_patternOf temp ▸ isPlaced_placeOnes ..
  tens := fieldT_patternOf temp ▸ isPlaced_placeTens ..
  hundreds := fieldH_patternOf temp ▸ isPlaced_placeHundreds ..

/-! ### The placement policies -/

section Policies

variable {neg : Bool} {d : Digits}

/-- U4's parameter is reached only by a value that is not negative and has neither hundreds nor tens
(41_digit_glyph_encoder.md R106, log 9). -/
theorem placeTens_eq_of_policies (p q : PlacementPolicy) (h : neg = true ∨ d.t ≠ 0 ∨ d.h ≠ 0) :
    placeTens p neg d = placeTens q neg d := by
  unfold placeTens
  split_ifs
  case neg => exfalso; tauto
  all_goals rfl

/-- U2's parameter is reached only by a value that is not negative, U3's only by zero (41_digit_glyph_encoder.md R107,
log 10, log 11). -/
theorem placeOnes_eq_of_policies (p q : PlacementPolicy)
    (h : (neg = true ∧ (d.o ≠ 0 ∨ d.f ≠ 0)) ∨ d.t ≠ 0 ∨ d.h ≠ 0) : placeOnes p neg d = placeOnes q neg d := by
  unfold placeOnes
  split_ifs
  · rfl
  · obtain ⟨rfl, -⟩ | hdigit | hdigit := h
    · simp [onesSign]
    all_goals tauto
  · exfalso; tauto
  · rfl

end Policies

/-! ### The obligations -/

/-- Settles O23: DE.VALIDATE rejects exactly what is not displayable, and the status is the flag. -/
theorem encodeAcceptsExactlyTheDisplayable : Obligations.EncodeAcceptsExactlyTheDisplayable := fun temp s =>
  ⟨_, exec_encode temp s, encodeResult_ef_eq_false_iff temp s, encodeResult_ret_eq_zero_iff temp s⟩

/-- Settles O25: the digits are remainders of quotients of the absolute value, which is at most 1130, and 490 for a negative
value. -/
theorem digitsRecomposeTheMagnitude : Obligations.DigitsRecomposeTheMagnitude := by
  intro m lo hi
  dsimp only
  rw [absMagnitude_eq_natAbs, Fin.ext_iff]
  refine ⟨digitsOf_recompose (by omega), ?_, fun hneg => ?_⟩
  · rw [digitsOf_h_val]
    omega
  · rw [digitsOf_h_val, digitsOf_t_val, Fin.val_zero]
    omega

/-- Settles O26: each class of magnitudes has its own row of glyphs. -/
theorem placementByMagnitude : Obligations.PlacementByMagnitude := by
  intro m u s h
  obtain ⟨lo, hi⟩ := mag_mem_range_of_displayable h
  refine ⟨_, exec_encode { mag := m, unit := u } s, ?_⟩
  rw [encodeResult_pat_of_displayable s h, fieldH_patternOf, fieldT_patternOf, fieldO_patternOf, fieldF_patternOf]
  exact ⟨tenthsGlyph_eq _, fun h1 => glyphs_of_ge_thousand h1 (by omega), glyphs_of_hundreds, glyphs_of_tens,
    glyphs_of_ones, glyphs_of_zero⟩

/-- Settles O27: each of the first three fields holds the minus in its own class of magnitudes, the tenths never. -/
theorem minusAppearsInAtMostOneField : Obligations.MinusAppearsInAtMostOneField := by
  intro m u s h
  obtain ⟨lo, hi⟩ := mag_mem_range_of_displayable h
  dsimp only at lo hi
  refine ⟨_, exec_encode { mag := m, unit := u } s, ?_⟩
  rw [encodeResult_pat_of_displayable s h, fieldH_patternOf, fieldT_patternOf, fieldO_patternOf, fieldF_patternOf]
  refine ⟨?_, fun h1 h9 => (onesGlyph_eq_minus_iff lo hi).2 (by omega)⟩
  simp only [List.count_cons, List.count_nil, beq_iff_eq, hundredsGlyph_eq_minus_iff lo, tensGlyph_eq_minus_iff lo,
    onesGlyph_eq_minus_iff lo hi, tenthsGlyph_ne_minus, if_false]
  split_ifs <;> omega

/-- Settles O28: equal patterns show equal digits and, from 10 on, equal signs; at 1..9 no field depends on the sign. -/
theorem patternsCoincideOnlyNearZero : Obligations.PatternsCoincideOnlyNearZero := by
  intro m n u s hm hn
  refine ⟨encodeResult { mag := m, unit := u } s, encodeResult { mag := n, unit := u } s, exec_encode _ s,
    exec_encode _ s, ?_⟩
  rw [encodeResult_pat_of_displayable s hm, encodeResult_pat_of_displayable s hn]
  exact ⟨eq_or_near_zero_of_patternOf_eq (mag_mem_range_of_displayable hm) (mag_mem_range_of_displayable hn), fun h =>
    h.elim (fun heq => heq ▸ rfl) fun ⟨hopp, h1, h9⟩ => patternOf_eq_of_near_zero u (by omega) h1 h9⟩

/-- Settles O29: a rejected operand leaves `ERR`; an accepted one is displayable, and its pattern has the composed shape with
the unit bit of its unit. -/
theorem encodeProducesErrOrComposed : Obligations.EncodeProducesErrOrComposed := by
  intro temp s
  refine ⟨_, exec_encode temp s, fun hret => ?_, fun hret => ?_⟩
  · rw [encodeResult_pat, if_pos ((encodeResult_ret_eq_one_iff temp s).1 hret)]
    exact ⟨rfl, by decide⟩
  · have h := (encodeResult_ret_eq_zero_iff temp s).1 hret
    rw [encodeResult_pat_of_displayable s h]
    refine ⟨patternOf_composed h, ?_, ?_⟩
    · rw [patternOf_eq_compose, compose_bit28, decide_eq_true_iff]
    · rw [patternOf_eq_compose, compose_bit29, decide_eq_true_iff]

/-- Settles O31: a negative value is past the parameters of U2, U3 and U4 by its sign, and a value above 99 by its digits. -/
theorem policyMattersOnlyFromZeroToNinetyNine : Obligations.PolicyMattersOnlyFromZeroToNinetyNine := by
  intro p temp h hclass
  obtain ⟨lo, hi⟩ := mag_mem_range_of_displayable h
  have hdigits : (isNegative temp.mag.toInt = true ∧ ((digitsOf (absMagnitude temp.mag.toInt)).o ≠ 0
      ∨ (digitsOf (absMagnitude temp.mag.toInt)).f ≠ 0))
      ∨ (digitsOf (absMagnitude temp.mag.toInt)).t ≠ 0 ∨ (digitsOf (absMagnitude temp.mag.toInt)).h ≠ 0 := by
    simp only [isNegative_iff, absMagnitude_eq_natAbs, ne_eq, Fin.ext_iff, digitsOf_o_val, digitsOf_f_val,
      digitsOf_t_val, digitsOf_h_val, Fin.val_zero]
    omega
  rw [patternOf, patternWith, patternWith, placeOnes_eq_of_policies p placementPolicy hdigits,
    placeTens_eq_of_policies p placementPolicy (hdigits.imp_left And.left)]

end Sys2Proof.Machine

/-!
PROOFS. What `UPDATE` leaves, driven from the ports (42_formatter_update.md section 3, 30_encoding.md section 4,
70_reset_and_hazards.md section 1): its outcome on each of its two paths, and that nothing but the two input ports goes
into it.
-/

namespace Sys2Proof.Machine

variable {s : State}

/-! ### The two paths of `UPDATE` -/

/-- The success path: the pattern of a displayable Temperature, written once, and status 0 (42_formatter_update.md R138). -/
theorem updateResult_of_trusted (h : Trusted s.sensorPort s.statusPort) :
    (updateResult s).sf = false ∧ (updateResult s).ret = 0#1 ∧ (updateResult s).wtrace = [(updateResult s).pat]
      ∧ (updateResult s).displayPort = (updateResult s).pat ∧ Composed (updateResult s).pat
      ∧ Displayable (updateResult s).t := by
  have hsf := (updateResult_sf_eq_false_iff s).2 h
  have hef : (updateResult s).ef = false := (updateResult_ef_eq_sf s).trans hsf
  have ht : Displayable (updateResult s).t := by
    rw [updateResult_t]
    exact rdtempResult_displayable_of_trusted h
  have hpat : (updateResult s).pat = patternOf (updateResult s).t := by
    rw [updateResult_pat, if_neg ((not_rejected_iff_displayable _).2 ht)]
  refine ⟨hsf, ?_, ?_, ?_, hpat ▸ patternOf_composed ht, ht⟩
  · rw [updateResult_ret_eq_sf, hsf]; rfl
  · rw [updateResult_wtrace, hsf, hef]; rfl
  · rw [updateResult_displayPort, hsf, hef]; rfl

/-- The failure path: `ERR`, written twice, the sentinel Temperature and status 1 (42_formatter_update.md R138). -/
theorem updateResult_of_not_trusted (h : ¬ Trusted s.sensorPort s.statusPort) :
    (updateResult s).sf = true ∧ (updateResult s).ret = 1#1 ∧ (updateResult s).wtrace = [errPattern, errPattern]
      ∧ (updateResult s).displayPort = errPattern ∧ (updateResult s).pat = errPattern
      ∧ (updateResult s).t = { mag := 0#16, unit := .error } := by
  have hsf : (updateResult s).sf = true := by
    rwa [← Bool.not_eq_false, updateResult_sf_eq_false_iff]
  have hef : (updateResult s).ef = true := (updateResult_ef_eq_sf s).trans hsf
  have hfault : SensorFaulty (rawReading s.sensorPort) s.statusPort :=
    not_not.1 (mt not_sensorFaulty_iff_trusted.1 h)
  have ht : (updateResult s).t = { mag := 0#16, unit := .error } := by
    rw [updateResult_t, rdtempResult_of_faulty s hfault]
  refine ⟨hsf, ?_, ?_, ?_, ?_, ht⟩
  · rw [updateResult_ret_eq_sf, hsf]; rfl
  · rw [updateResult_wtrace, hsf, hef]; rfl
  · rw [updateResult_displayPort, hsf, hef]; rfl
  · rw [updateResult_pat, ht]; rfl

/-- After any cycle the display holds a composed pattern or `ERR` (70_reset_and_hazards.md R171). -/
theorem updateResult_displayDefined (s : State) : DisplayDefined (updateResult s).displayPort := by
  by_cases h : Trusted s.sensorPort s.statusPort
  · obtain ⟨-, -, -, hdisplay, hcomposed, -⟩ := updateResult_of_trusted h
    exact .inl (hdisplay ▸ hcomposed)
  · obtain ⟨-, -, -, hdisplay, -, -⟩ := updateResult_of_not_trusted h
    exact .inr hdisplay

/-! ### Dependence on the ports alone -/

@[simp] theorem finishRdtemp_t (s : State) : (finishRdtemp s).t = s.t := rfl
@[simp] theorem finishRdtemp_sf (s : State) : (finishRdtemp s).sf = s.sf := rfl
@[simp] theorem finishRdtemp_wtrace (s : State) : (finishRdtemp s).wtrace = s.wtrace := rfl

theorem rdtempResult_t (s : State) :
    (rdtempResult s).t = if SensorFaulty (rawReading s.sensorPort) s.statusPort then errorTemperature
      else selectUnit (celsiusOf (rawReading s.sensorPort)) s.statusPort := by
  rw [rdtempResult, finishRdtemp_t, sensorStage_t, startOperation_sensorPort, startOperation_statusPort]

theorem rdtempResult_sf (s : State) :
    (rdtempResult s).sf = decide (SensorFaulty (rawReading s.sensorPort) s.statusPort) := by
  rw [rdtempResult, finishRdtemp_sf, sensorStage_sf, startOperation_sensorPort, startOperation_statusPort]

theorem rdtempResult_wtrace (s : State) : (rdtempResult s).wtrace = [] := by
  rw [rdtempResult, finishRdtemp_wtrace, sensorStage_wtrace, startOperation_wtrace]

/-! ### The obligations -/

/-- Settles O33: the two flags are equal, and the two paths are those of a trusted reading and of any other. -/
theorem updateOutcomeFromThePorts : Obligations.UpdateOutcomeFromThePorts := fun s =>
  ⟨_, exec_update s, updateResult_ef_eq_sf s, updateResult_of_trusted, updateResult_of_not_trusted⟩

/-- Settles O36: `T` and `SF` after the sensor stage are functions of the two port words, and all that `UPDATE` adds is a
function of these two. -/
theorem resultsDependOnInputPortsAlone : Obligations.ResultsDependOnInputPortsAlone := by
  intro s1 s2 hsensor hstatus
  have ht : (rdtempResult s1).t = (rdtempResult s2).t := by rw [rdtempResult_t, rdtempResult_t, hsensor, hstatus]
  have hsf : (rdtempResult s1).sf = (rdtempResult s2).sf := by rw [rdtempResult_sf, rdtempResult_sf, hsensor, hstatus]
  have ht' : (updateResult s1).t = (updateResult s2).t := by rw [updateResult_t, updateResult_t, ht]
  have hsf' : (updateResult s1).sf = (updateResult s2).sf := by rw [updateResult_sf, updateResult_sf, hsf]
  have hef : (updateResult s1).ef = (updateResult s2).ef := by rw [updateResult_ef, updateResult_ef, ht']
  have hpat : (updateResult s1).pat = (updateResult s2).pat := by rw [updateResult_pat, updateResult_pat, ht']
  refine ⟨⟨_, _, exec_rdtemp s1, exec_rdtemp s2, ht, hsf, ?_, ?_⟩,
    ⟨_, _, exec_update s1, exec_update s2, ht', hpat, hsf', hef, ?_, ?_, ?_⟩⟩
  · rw [rdtempResult_ret, rdtempResult_ret, hsf]
  · rw [rdtempResult_wtrace, rdtempResult_wtrace]
  · rw [updateResult_ret, updateResult_ret, hsf', hef]
  · rw [updateResult_wtrace, updateResult_wtrace, hsf', hef, hpat]
  · rw [updateResult_displayPort, updateResult_displayPort, hsf', hef, hpat]

/-- Settles O43: the one word of the success path is a composed pattern, the two of the failure path are `ERR`. -/
theorem displayMarkerIsComplementOfStatus : Obligations.DisplayMarkerIsComplementOfStatus := by
  intro s
  refine ⟨_, exec_update s, ?_⟩
  by_cases h : Trusted s.sensorPort s.statusPort
  · obtain ⟨-, hret, htrace, hdisplay, hcomposed, -⟩ := updateResult_of_trusted h
    rw [hret, htrace, hdisplay]
    exact ⟨hcomposed.marker, hcomposed.bit30, rfl⟩
  · obtain ⟨-, hret, htrace, hdisplay, -, -⟩ := updateResult_of_not_trusted h
    rw [hret, htrace, hdisplay]
    decide

/-- Settles O53: on both paths of a cycle. -/
theorem updateDefinesTheDisplay : Obligations.UpdateDefinesTheDisplay := fun s =>
  ⟨_, exec_update s, updateResult_displayDefined s⟩

/-- Settles O44: `raise` is two latch writes for each fault. -/
theorem raiseSetsFlagAndSentinelOnly : Obligations.RaiseSetsFlagAndSentinelOnly := fun s =>
  ⟨raise_sensorFault_state s, raise_encodingRangeFault_state s⟩

end Sys2Proof.Machine

/-!
PROOFS. Steps and runs (10_state.md section 4, 20_memory.md section 4, 42_formatter_update.md section 5,
60_exceptions.md sections 1 and 4, 70_reset_and_hazards.md sections 1 and 3): what a step can do, said once, and from it
the invariants of every step and, by one induction, of every run.
-/

namespace Sys2Proof.Machine

/-! ### What a step can do -/

section Step

variable {s : State} {rest : List EnvAction} {w : Word}

theorem step_of_script_nil (h : s.script = []) : step s = .next s := by
  rw [step, nextAction_nil s h]

theorem step_setSensor (h : s.script = .setSensor w :: rest) :
    step s = .next (setSensorPort w (setScript rest s)) :=
  step_of_script_cons h

theorem step_setStatus (h : s.script = .setStatus w :: rest) :
    step s = .next (setStatusPort w (setScript rest s)) :=
  step_of_script_cons h

theorem step_setDisplay (h : s.script = .setDisplay w :: rest) :
    step s = .next (setDisplayPort w (setScript rest s)) :=
  step_of_script_cons h

/-- An invocation at an idle block leaves the state its operation leaves. -/
theorem step_invoke {cmd : Cmd} (h : s.script = .invoke cmd :: rest) (hidle : s.phase = .idle) :
    step s = .next (operationResult (decode cmd) (setScript rest s)) := by
  rw [step_invoke_of_idle h hidle, exec_eq_operationResult]

end Step

/-- The next states of a step, by the action that comes next. -/
inductive StepTo (s : State) : State → Prop where
  | quiet (h : s.script = []) : StepTo s s
  | setSensor (w : Word) (rest : List EnvAction) (h : s.script = .setSensor w :: rest) :
      StepTo s (setSensorPort w (setScript rest s))
  | setStatus (w : Word) (rest : List EnvAction) (h : s.script = .setStatus w :: rest) :
      StepTo s (setStatusPort w (setScript rest s))
  | setDisplay (w : Word) (rest : List EnvAction) (h : s.script = .setDisplay w :: rest) :
      StepTo s (setDisplayPort w (setScript rest s))
  | reset (rest : List EnvAction) (h : s.script = .reset :: rest) : StepTo s (applyReset (setScript rest s))
  | invoke (cmd : Cmd) (rest : List EnvAction) (h : s.script = .invoke cmd :: rest) (hidle : s.phase = .idle) :
      StepTo s (operationResult (decode cmd) (setScript rest s))

variable (s : State)

/-- A step answers a next state, or is an invocation that a busy block refuses (70_reset_and_hazards.md R177). -/
theorem step_cases :
    (∃ t, step s = .next t ∧ StepTo s t)
      ∨ (step s = .refused .invokedWhileBusy ∧ s.phase ≠ .idle ∧ ∃ cmd rest, s.script = .invoke cmd :: rest) := by
  match h : s.script with
  | [] => exact .inl ⟨_, step_of_script_nil h, .quiet h⟩
  | .setSensor w :: rest => exact .inl ⟨_, step_setSensor h, .setSensor w rest h⟩
  | .setStatus w :: rest => exact .inl ⟨_, step_setStatus h, .setStatus w rest h⟩
  | .setDisplay w :: rest => exact .inl ⟨_, step_setDisplay h, .setDisplay w rest h⟩
  | .reset :: rest => exact .inl ⟨_, step_reset h, .reset rest h⟩
  | .invoke cmd :: rest =>
    by_cases hidle : s.phase = .idle
    · exact .inl ⟨_, step_invoke h hidle, .invoke cmd rest h hidle⟩
    · exact .inr ⟨step_invoke_of_busy h hidle, hidle, cmd, rest, rfl⟩

variable {s}

/-- An idle block answers every action. -/
theorem step_of_atRest (h : AtRest s) : ∃ t, step s = .next t ∧ StepTo s t := by
  obtain hnext | ⟨-, hbusy, -⟩ := step_cases s
  · exact hnext
  · exact absurd h hbusy

theorem stepTo_of_step {t : State} (h : step s = .next t) : StepTo s t := by
  obtain ⟨t', ht', hto⟩ | ⟨hrefused, -⟩ := step_cases s
  · rwa [Host.Outcome.next.inj (h.symm.trans ht')]
  · exact nomatch h.symm.trans hrefused

/-! ### The invariant -/

theorem writesOf_append (l l' : List PortAccess) : writesOf (l ++ l') = writesOf l ++ writesOf l' := by
  induction l with
  | nil => rfl
  | cons a l ih => cases a <;> simp [writesOf, ih]

theorem writesOf_map_write (l : List Word) : writesOf (l.map .write) = l := by
  induction l with
  | nil => rfl
  | cons w l ih => simp [writesOf, ih]

theorem updateResult_traceAgrees (s : State) : TraceAgrees (updateResult s) := by
  simp only [TraceAgrees, updateResult_bus, writesOf_append, writesOf_map_write, writesOf, List.nil_append]

theorem updateResult_traceShort (s : State) : TraceShort (updateResult s) := by
  rw [TraceShort, updateResult_wtrace, cycleWords_rows]
  cases (updateResult s).sf <;> cases (updateResult s).ef <;> simp

@[simp] theorem finishRdtemp_bus (s : State) : (finishRdtemp s).bus = s.bus := rfl
@[simp] theorem finishEncode_bus (s : State) : (finishEncode s).bus = s.bus := rfl

@[simp] theorem encodeStage_bus (s : State) : (encodeStage s).bus = s.bus :=
  (writes_nil.1 (encodeStage_writes s)).2.1

/-- An operation other than `UPDATE` lists no write in its access record (20_memory.md R40). -/
theorem writesOf_operationResult_bus {i : Instr} (hi : i ≠ .update) (s : State) :
    writesOf (operationResult i s).bus = [] := by
  cases i with
  | nop => rfl
  | rdtemp => simp [operationResult, rdtempResult, writesOf]
  | encode temp => simp [operationResult, encodeResult, writesOf]
  | update => exact absurd rfl hi

/-- What `exec_writes_nothing` says, of the state the operation leaves. -/
theorem operationResult_writes_nothing {i : Instr} (hi : i ≠ .update) (s : State) :
    (operationResult i s).wtrace = [] ∧ (operationResult i s).displayPort = s.displayPort := by
  obtain ⟨t, ht, htrace, hdisplay⟩ := exec_writes_nothing s i hi
  rw [← eq_operationResult_of_exec ht]
  exact ⟨htrace, hdisplay⟩

/-- Every operation invoked at an idle block leaves the invariant, whatever the trace and the record held before. -/
theorem operationResult_inv {s : State} (h : AtRest s) (i : Instr) : Inv (operationResult i s) := by
  by_cases hi : i = .update
  · subst hi
    exact ⟨rfl, updateResult_traceAgrees s, updateResult_traceShort s⟩
  · obtain ⟨htrace, -⟩ := operationResult_writes_nothing hi s
    exact ⟨operationResult_phase s i h, (writesOf_operationResult_bus hi s).trans htrace.symm, .inl htrace⟩

/-- Each next state of a step meets the invariant: the port actions touch no field it speaks of, a reset empties the trace
and the record, an operation starts both afresh. -/
theorem StepTo.inv {s t : State} (h : StepTo s t) (hinv : Inv s) : Inv t := by
  obtain ⟨hrest, hagrees, hshort⟩ := id hinv
  cases h with
  | quiet _ => exact hinv
  | setSensor w rest _ => exact ⟨hrest, hagrees, hshort⟩
  | setStatus w rest _ => exact ⟨hrest, hagrees, hshort⟩
  | setDisplay w rest _ => exact ⟨hrest, hagrees, hshort⟩
  | reset rest _ => exact ⟨rfl, rfl, .inl rfl⟩
  | invoke cmd rest _ hidle => exact operationResult_inv (s := setScript rest s) hidle (decode cmd)

/-- An idle block is idle after any step (10_state.md R31). -/
theorem StepTo.atRest {s t : State} (h : StepTo s t) (hrest : AtRest s) : AtRest t := by
  cases h with
  | quiet _ => exact hrest
  | setSensor w rest _ => exact hrest
  | setStatus w rest _ => exact hrest
  | setDisplay w rest _ => exact hrest
  | reset rest _ => rfl
  | invoke cmd rest _ hidle => exact operationResult_phase (setScript rest s) (decode cmd) hidle

theorem operationResult_script (i : Instr) (s : State) : (operationResult i s).script = s.script := by
  obtain ⟨-, -, hscript, -⟩ := environment_eq_iff.1 (operationResult_environment s i)
  exact hscript

/-- A step takes the first action from the script, and no more (log 2). -/
theorem StepTo.script {s t : State} (h : StepTo s t) : t.script = s.script.tail := by
  cases h with
  | quiet h => rw [h]; rfl
  | setSensor w rest h => rw [h]; rfl
  | setStatus w rest h => rw [h]; rfl
  | setDisplay w rest h => rw [h]; rfl
  | reset rest h => rw [h]; rfl
  | invoke cmd rest h hidle => rw [operationResult_script, h]; rfl

/-! ### The display -/

/-- Only `UPDATE` writes the display, and it leaves it defined (70_reset_and_hazards.md R171). -/
theorem operationResult_displayDefined {s : State} (h : DisplayDefined s.displayPort) (i : Instr) :
    DisplayDefined (operationResult i s).displayPort := by
  by_cases hi : i = .update
  · subst hi
    exact updateResult_displayDefined s
  · obtain ⟨-, hdisplay⟩ := operationResult_writes_nothing hi s
    rwa [hdisplay]

theorem StepTo.displayDefined {s t : State} (h : StepTo s t) (hdef : DisplayDefined s.displayPort)
    (halone : DisplayLeftAlone s) : DisplayDefined t.displayPort := by
  cases h with
  | quiet _ => exact hdef
  | setSensor w rest _ => exact hdef
  | setStatus w rest _ => exact hdef
  | setDisplay w rest h => exact absurd h (halone w rest)
  | reset rest _ => exact hdef
  | invoke cmd rest _ hidle => exact operationResult_displayDefined (s := setScript rest s) hdef (decode cmd)

/-! ### Runs -/

/-- If at `k + 1` steps to go a state with `P` steps to one with `P` at `k` steps to go, a run of `k` steps ends with
none to go. -/
theorem run_of_step {P : Nat → State → Prop}
    (hstep : ∀ k s, P (k + 1) s → ∃ t, step s = .next t ∧ P k t) :
    ∀ k s, P k s → ∃ t, core.run k s = .next t ∧ P 0 t := by
  intro k
  induction k with
  | zero => exact fun s h => ⟨s, core_run_zero s, h⟩
  | succ k ih =>
    intro s h
    obtain ⟨t, ht, hP⟩ := hstep k s h
    rw [core_run_succ k s t ht]
    exact ih t hP

theorem step_keeps_inv {s : State} (h : Inv s) : ∃ t, step s = .next t ∧ Inv t := by
  obtain ⟨t, ht, hto⟩ := step_of_atRest h.atRest
  exact ⟨t, ht, hto.inv h⟩

/-- The block is idle and the script has `k` actions left. -/
def AtRestWith (k : Nat) (s : State) : Prop := AtRest s ∧ s.script.length = k

theorem step_shortens_script (k : Nat) (s : State) (h : AtRestWith (k + 1) s) :
    ∃ t, step s = .next t ∧ AtRestWith k t := by
  obtain ⟨hrest, hlength⟩ := h
  obtain ⟨t, ht, hto⟩ := step_of_atRest hrest
  refine ⟨t, ht, hto.atRest hrest, ?_⟩
  rw [hto.script, List.length_tail, hlength, Nat.add_sub_cancel]

/-! ### A cycle after new port words -/

/-- An invocation of the production word at an idle block is a cycle (30_encoding.md R60). -/
theorem step_update {s : State} {rest : List EnvAction} (h : s.script = .invoke 0xC0000#20 :: rest)
    (hidle : s.phase = .idle) : step s = .next (updateResult (setScript rest s)) :=
  step_invoke h hidle

theorem updateResult_phase (s : State) : (updateResult s).phase = .idle := rfl

theorem updateResult_script (s : State) : (updateResult s).script = s.script := operationResult_script .update s

/-- A cycle invoked once the environment has set both input ports runs on the words it set (30_encoding.md R76). -/
theorem run_setPorts_update {s : State} {v st : Word} (hidle : s.phase = .idle)
    (h : s.script = [.setSensor v, .setStatus st, .invoke 0xC0000#20]) :
    core.run 3 s = .next (updateResult { s with sensorPort := v, statusPort := st, script := [] }) := by
  calc core.run 3 s
    _ = core.run 2 { s with sensorPort := v, script := [.setStatus st, .invoke 0xC0000#20] } :=
      core_run_succ 2 s _ (step_setSensor h)
    _ = core.run 1 { s with sensorPort := v, statusPort := st, script := [.invoke 0xC0000#20] } :=
      core_run_succ 1 _ _ (step_setStatus rfl)
    _ = .next (updateResult { s with sensorPort := v, statusPort := st, script := [] }) :=
      core_run_succ 0 _ _ (step_update rfl hidle)

/-! ### The obligations -/

/-- Settles O50: an idle block answers every action, and each kind of step keeps the invariant. -/
theorem stepProgressesAndKeepsTheInvariant : Obligations.StepProgressesAndKeepsTheInvariant := fun _ h =>
  step_keeps_inv h

/-- Settles O51: by induction on the number of steps. -/
theorem runsNeverStopAndKeepTheInvariant : Obligations.RunsNeverStopAndKeepTheInvariant :=
  run_of_step (P := fun _ => Inv) fun _ _ => step_keeps_inv

/-- Settles O54: only `UPDATE` and another agent write the display, and the second is excluded. -/
theorem stepKeepsTheDisplayDefined : Obligations.StepKeepsTheDisplayDefined := fun _ _ hdef halone h =>
  (stepTo_of_step h).displayDefined hdef halone

/-- Settles O52: by induction on the number of actions left, each step taking one. -/
theorem scriptsRunToTheirEnd : Obligations.ScriptsRunToTheirEnd := by
  intro s h
  obtain ⟨t, ht, hrest, hlength⟩ := run_of_step step_shortens_script s.script.length s ⟨h, rfl⟩
  exact ⟨t, ht, List.length_eq_zero_iff.1 hlength, hrest⟩

/-- Settles O48: every operation answers, and a step that does not is the refused invocation. -/
theorem nothingStopsButAnInvocationWhileBusy : Obligations.NothingStopsButAnInvocationWhileBusy := by
  refine ⟨exec_eq_next, fun s f h => ?_, fun s r h => ?_⟩
  · obtain ⟨t, ht, -⟩ | ⟨hrefused, -⟩ := step_cases s
    · exact nomatch h.symm.trans ht
    · exact nomatch h.symm.trans hrefused
  · obtain ⟨t, ht, -⟩ | ⟨hrefused, hbusy, hinvoke⟩ := step_cases s
    · exact nomatch h.symm.trans ht
    · exact ⟨Host.Outcome.refused.inj (h.symm.trans hrefused), hbusy, hinvoke⟩

/-- Settles O47: the first cycle leaves the block idle and the script as it was; the second finds trusted words on the
ports, on which alone its outcome depends. -/
theorem cycleAfterAFaultRecovers : Obligations.CycleAfterAFaultRecovers := by
  intro s v st hrest htrusted hscript
  have hrun := run_setPorts_update (v := v) (st := st) (updateResult_phase (setScript _ s))
    (updateResult_script (setScript _ s))
  rw [← core_run_succ 3 s _ (step_update hscript hrest)] at hrun
  obtain ⟨hsf, hret, htrace, hdisplay, hcomposed, -⟩ := updateResult_of_trusted
    (s := { updateResult (setScript _ s) with sensorPort := v, statusPort := st, script := [] }) htrusted
  refine ⟨_, hrun, hret, hsf, (updateResult_ef_eq_sf _).trans hsf, ?_, ?_, updateResult_script _⟩
  · rwa [hdisplay]
  · rw [htrace, hdisplay]

/-- Settles O8: the invocation is the whole step. -/
theorem stepRunsTheInvokedOperation : Obligations.StepRunsTheInvokedOperation := fun _ _ _ h hidle =>
  step_invoke_of_idle h hidle

/-- Settles O9: a number below `2^20` is the command word it was placed as, and taking it from the script gives back the
state it was placed in. -/
theorem placedCommandWordRunsNext : Obligations.PlacedCommandWordRunsNext := by
  intro s w hw
  have hmod : w % 2 ^ 24 = w := Nat.mod_eq_of_lt (by omega)
  constructor
  · rw [State.withFetchWord, hmod, if_pos hw]
    exact step_invoke_of_idle rfl rfl
  · rw [decodeTableWord, hmod, decodeNat, if_pos hw]

/-- Settles O11: each port action is one field update of the state without that action. -/
theorem environmentActionsChangeOnlyTheirPort : Obligations.EnvironmentActionsChangeOnlyTheirPort := fun _ _ _ =>
  ⟨step_setSensor, step_setStatus, step_setDisplay, step_of_script_nil⟩

/-- Settles O13: each value is the field as `State.reset` gives it. -/
theorem resetStateHasTheStatedValues : Obligations.ResetStateHasTheStatedValues := ⟨rfl, rfl, rfl, rfl⟩

/-- Settles O49: the block is idle with an empty trace and an empty record. -/
theorem resetStateMeetsTheInvariant : Obligations.ResetStateMeetsTheInvariant := ⟨rfl, rfl, .inl rfl⟩

end Sys2Proof.Machine
